-- ==== Sys2Proof/Word.lean ====
section
/-! DEFINITION. The word types of the classifier: an ARM word, a Thumb word, the selector bit and the output index.
Bits are numbered as 00_scope.md R10 says: bit 0 is the least significant. -/

namespace Sys2Proof

/-- The value of `in_word`, and an ARM instruction word: 32 bits (00_scope.md R8, 10_state.md R29). -/
abbrev ArmWord := BitVec 32

/-- A Thumb instruction word: 16 bits (00_scope.md R8). -/
abbrev ThumbWord := BitVec 16

/-- The value of `in_isa`: 1 bit (10_state.md R27, R28). -/
abbrev IsaBit := BitVec 1

/-- The value of `out_idx`: 5 bits (10_state.md R27, R30). -/
abbrev Idx := BitVec 5

end Sys2Proof
end

