-- ==== Sys2Proof/Syntax.lean ====
section
/-! DEFINITION. The syntax: the two instruction sets, a request as the ports carry it, a row of a rule table, and `Instr`,
one constructor per row of spec/opcode_table.json. -/

namespace Sys2Proof

/-- The two instruction sets (00_scope.md R15, 10_state.md R28). -/
inductive Isa where
  | arm
  | thumb
  deriving DecidableEq, Repr

/-- One presentation of the two inputs (10_state.md R27, R33). -/
structure Request where
  inIsa : IsaBit
  inWord : ArmWord
  deriving DecidableEq, Repr

/-- A row of a rule table: the tested bits and the values they must have (30_encoding.md R56). -/
structure Row (n : Nat) where
  mask : BitVec n
  pattern : BitVec n
  deriving DecidableEq, Repr

/-- A word together with the row of spec/opcode_table.json it is read as. The only operand of a row is the whole word:
`in_word[31:0]` for an ARM row, `in_word[15:0]` for a Thumb row (30_encoding.md R61, log entry 6). -/
inductive Instr where
  /-- ARM32: row 1, "Branch and exchange" (R101). -/
  | armBranchExchange (w : ArmWord)
  /-- ARM32: row 2, "Block data transfer" (R102). -/
  | armBlockDataTransfer (w : ArmWord)
  /-- ARM32: row 3, "Branch / branch with link" (R103). -/
  | armBranch (w : ArmWord)
  /-- ARM32: row 4, "Software interrupt" (R104). -/
  | armSoftwareInterrupt (w : ArmWord)
  /-- ARM32: row 5, "Undefined" (R105). -/
  | armUndefined (w : ArmWord)
  /-- ARM32: row 6, "Single data transfer" (R106). -/
  | armSingleDataTransfer (w : ArmWord)
  /-- ARM32: row 7, "Single data swap" (R107). -/
  | armSingleDataSwap (w : ArmWord)
  /-- ARM32: row 8, "Multiply / multiply long" (R108). -/
  | armMultiply (w : ArmWord)
  /-- ARM32: row 9, "Halfword transfer (register offset)" (R109). -/
  | armHalfwordTransferReg (w : ArmWord)
  /-- ARM32: row 10, "Halfword transfer (immediate offset)" (R110). -/
  | armHalfwordTransferImm (w : ArmWord)
  /-- ARM32: row 11, "PSR transfer (read)" (R111). -/
  | armPsrTransferRead (w : ArmWord)
  /-- ARM32: row 12, "PSR transfer (write)" (R112). -/
  | armPsrTransferWrite (w : ArmWord)
  /-- ARM32: row 13, "Data processing" (R113). -/
  | armDataProcessing (w : ArmWord)
  /-- ARM32: the fallback, "Illegal instruction" (R114). -/
  | armIllegal (w : ArmWord)
  /-- THUMB16: row 1, "Software interrupt" (R121). -/
  | thumbSoftwareInterrupt (w : ThumbWord)
  /-- THUMB16: row 2, "Unconditional branch" (R122). -/
  | thumbUnconditionalBranch (w : ThumbWord)
  /-- THUMB16: row 3, "Conditional branch" (R123). -/
  | thumbConditionalBranch (w : ThumbWord)
  /-- THUMB16: row 4, "Multiple load/store" (R124). -/
  | thumbMultipleLoadStore (w : ThumbWord)
  /-- THUMB16: row 5, "Long branch with link" (R125). -/
  | thumbLongBranchWithLink (w : ThumbWord)
  /-- THUMB16: row 6, "Add offset to stack pointer" (R126). -/
  | thumbAddOffsetToSp (w : ThumbWord)
  /-- THUMB16: row 7, "Push/pop registers" (R127). -/
  | thumbPushPop (w : ThumbWord)
  /-- THUMB16: row 8, "Load/store halfword" (R128). -/
  | thumbLoadStoreHalfword (w : ThumbWord)
  /-- THUMB16: row 9, "Stack-pointer-relative load/store" (R129). -/
  | thumbSpRelativeLoadStore (w : ThumbWord)
  /-- THUMB16: row 10, "Load address" (R130). -/
  | thumbLoadAddress (w : ThumbWord)
  /-- THUMB16: row 11, "Load/store with immediate offset" (R131). -/
  | thumbLoadStoreImmOffset (w : ThumbWord)
  /-- THUMB16: row 12, "Load/store with register offset" (R132). -/
  | thumbLoadStoreRegOffset (w : ThumbWord)
  /-- THUMB16: row 13, "Load/store sign-extended byte/halfword" (R133). -/
  | thumbLoadStoreSignExtended (w : ThumbWord)
  /-- THUMB16: row 14, "Program-counter-relative load" (R134). -/
  | thumbPcRelativeLoad (w : ThumbWord)
  /-- THUMB16: row 15, "Hi-register operation / branch exchange" (R135). -/
  | thumbHiRegOpBx (w : ThumbWord)
  /-- THUMB16: row 16, "ALU operation" (R136). -/
  | thumbAluOperation (w : ThumbWord)
  /-- THUMB16: row 17, "Move/compare/add/subtract immediate" (R137). -/
  | thumbMovCmpAddSubImm (w : ThumbWord)
  /-- THUMB16: row 18, "Add/subtract" (R138). -/
  | thumbAddSubtract (w : ThumbWord)
  /-- THUMB16: row 19, "Move shifted register" (R139). -/
  | thumbMoveShiftedRegister (w : ThumbWord)
  /-- THUMB16: the fallback, "Illegal instruction" (R140). -/
  | thumbIllegal (w : ThumbWord)
  deriving DecidableEq, Repr

end Sys2Proof
end

