-- ==== Sys2Proof/Decode.lean ====
section
/-! DEFINITION. The rule tables and the first-match procedure (00_scope.md R12, 30_encoding.md), the decoder from the ports'
values to an instruction (total: every request is legal, 30_encoding.md R69), and the encoder after it. -/

namespace Sys2Proof

/-- `v[hi:lo]`, both ends included (00_scope.md R10). -/
abbrev bits {n : Nat} (w : BitVec n) (hi lo : Nat) : BitVec (hi - lo + 1) := w.extractLsb hi lo

/-- `Match(w, mask, pattern)` (00_scope.md R12, 30_encoding.md R56). -/
def Row.hit {n : Nat} (r : Row n) (w : BitVec n) : Bool := (w &&& r.mask) == r.pattern

/-- `FirstMatch` with the rows numbered from `k` on. -/
def firstMatchFrom {n : Nat} (k : Nat) : List (Row n) → BitVec n → Nat
  | [], _ => 0
  | r :: rest, w => if r.hit w then k else firstMatchFrom (k + 1) rest w

/-- `FirstMatch(table, w)`: the priority number of the first row that matches, or 0 (00_scope.md R12). -/
def firstMatch {n : Nat} (table : List (Row n)) (w : BitVec n) : Nat := firstMatchFrom 1 table w

/-- How many mask tests `FirstMatch` makes on `w` (70_reset_and_hazards.md R195). -/
def testsMade {n : Nat} : List (Row n) → BitVec n → Nat
  | [], _ => 0
  | r :: rest, w => if r.hit w then 1 else testsMade rest w + 1

/-- None of the rows of `table` matches. -/
def noneHit {n : Nat} (table : List (Row n)) (w : BitVec n) : Bool := table.all fun r => !r.hit w

/-- Row `k` matches and none of `m[1..k-1]` does: the condition of row `k`'s rule (40_arm_classifier.md R101 to R113,
41_thumb_classifier.md R121 to R139). The words it holds of are row `k`'s effective set (00_scope.md R15). -/
def rowWins {n : Nat} (table : List (Row n)) (k : Nat) (w : BitVec n) : Bool :=
  (table[k - 1]?.any fun r => r.hit w) && noneHit (table.take (k - 1)) w

/-- The ARM rows in priority order (30_encoding.md R57). -/
def armTable : List (Row 32) := [
  ⟨0x0FFFFFF0#32, 0x012FFF10#32⟩,
  ⟨0x0E000000#32, 0x08000000#32⟩,
  ⟨0x0E000000#32, 0x0A000000#32⟩,
  ⟨0x0F000000#32, 0x0F000000#32⟩,
  ⟨0x0E000010#32, 0x06000010#32⟩,
  ⟨0x0C000000#32, 0x04000000#32⟩,
  ⟨0x0F800FF0#32, 0x01000090#32⟩,
  ⟨0x0F0000F0#32, 0x00000090#32⟩,
  ⟨0x0E400F90#32, 0x00000090#32⟩,
  ⟨0x0E400090#32, 0x00400090#32⟩,
  ⟨0x0FBF0000#32, 0x010F0000#32⟩,
  ⟨0x0DB0F000#32, 0x0120F000#32⟩,
  ⟨0x0C000000#32, 0x00000000#32⟩ ]

/-- The Thumb rows in priority order (30_encoding.md R58). -/
def thumbTable : List (Row 16) := [
  ⟨0xFF00#16, 0xDF00#16⟩,
  ⟨0xF800#16, 0xE000#16⟩,
  ⟨0xF000#16, 0xD000#16⟩,
  ⟨0xF000#16, 0xC000#16⟩,
  ⟨0xF000#16, 0xF000#16⟩,
  ⟨0xFF00#16, 0xB000#16⟩,
  ⟨0xF600#16, 0xB400#16⟩,
  ⟨0xF000#16, 0x8000#16⟩,
  ⟨0xF000#16, 0x9000#16⟩,
  ⟨0xF000#16, 0xA000#16⟩,
  ⟨0xE000#16, 0x6000#16⟩,
  ⟨0xF200#16, 0x5000#16⟩,
  ⟨0xF200#16, 0x5200#16⟩,
  ⟨0xF800#16, 0x4800#16⟩,
  ⟨0xFC00#16, 0x4400#16⟩,
  ⟨0xFC00#16, 0x4000#16⟩,
  ⟨0xE000#16, 0x2000#16⟩,
  ⟨0xF800#16, 0x1800#16⟩,
  ⟨0xE000#16, 0x0000#16⟩ ]

/-- The bit strings of the ARM rows, most significant bit first, `x` for a don't-care bit (30_encoding.md R57). -/
def armBitStrings : List String := [
  "xxxx000100101111111111110001xxxx",
  "xxxx100xxxxxxxxxxxxxxxxxxxxxxxxx",
  "xxxx101xxxxxxxxxxxxxxxxxxxxxxxxx",
  "xxxx1111xxxxxxxxxxxxxxxxxxxxxxxx",
  "xxxx011xxxxxxxxxxxxxxxxxxxx1xxxx",
  "xxxx01xxxxxxxxxxxxxxxxxxxxxxxxxx",
  "xxxx00010xxxxxxxxxxx00001001xxxx",
  "xxxx0000xxxxxxxxxxxxxxxx1001xxxx",
  "xxxx000xx0xxxxxxxxxx00001xx1xxxx",
  "xxxx000xx1xxxxxxxxxxxxxx1xx1xxxx",
  "xxxx00010x001111xxxxxxxxxxxxxxxx",
  "xxxx00x10x10xxxx1111xxxxxxxxxxxx",
  "xxxx00xxxxxxxxxxxxxxxxxxxxxxxxxx" ]

/-- The bit strings of the Thumb rows (30_encoding.md R58). -/
def thumbBitStrings : List String := [
  "11011111xxxxxxxx",
  "11100xxxxxxxxxxx",
  "1101xxxxxxxxxxxx",
  "1100xxxxxxxxxxxx",
  "1111xxxxxxxxxxxx",
  "10110000xxxxxxxx",
  "1011x10xxxxxxxxx",
  "1000xxxxxxxxxxxx",
  "1001xxxxxxxxxxxx",
  "1010xxxxxxxxxxxx",
  "011xxxxxxxxxxxxx",
  "0101xx0xxxxxxxxx",
  "0101xx1xxxxxxxxx",
  "01001xxxxxxxxxxx",
  "010001xxxxxxxxxx",
  "010000xxxxxxxxxx",
  "001xxxxxxxxxxxxx",
  "00011xxxxxxxxxxx",
  "000xxxxxxxxxxxxx" ]

/-- Identifier and label of the ARM output codes 0 to 13, in order (30_encoding.md R66). -/
def armCodes : List (String × String) := [
  ("ARM_ILLEGAL", "Illegal instruction"),
  ("ARM_BRANCH_EXCHANGE", "Branch and exchange"),
  ("ARM_BLOCK_DATA_TRANSFER", "Block data transfer"),
  ("ARM_BRANCH", "Branch / branch with link"),
  ("ARM_SOFTWARE_INTERRUPT", "Software interrupt"),
  ("ARM_UNDEFINED", "Undefined"),
  ("ARM_SINGLE_DATA_TRANSFER", "Single data transfer"),
  ("ARM_SINGLE_DATA_SWAP", "Single data swap"),
  ("ARM_MULTIPLY", "Multiply / multiply long"),
  ("ARM_HALFWORD_TRANSFER_REG", "Halfword transfer (register offset)"),
  ("ARM_HALFWORD_TRANSFER_IMM", "Halfword transfer (immediate offset)"),
  ("ARM_PSR_TRANSFER_READ", "PSR transfer (read)"),
  ("ARM_PSR_TRANSFER_WRITE", "PSR transfer (write)"),
  ("ARM_DATA_PROCESSING", "Data processing") ]

/-- Identifier and label of the Thumb output codes 0 to 19, in order (30_encoding.md R67). -/
def thumbCodes : List (String × String) := [
  ("THUMB_ILLEGAL", "Illegal instruction"),
  ("THUMB_SOFTWARE_INTERRUPT", "Software interrupt"),
  ("THUMB_UNCONDITIONAL_BRANCH", "Unconditional branch"),
  ("THUMB_CONDITIONAL_BRANCH", "Conditional branch"),
  ("THUMB_MULTIPLE_LOAD_STORE", "Multiple load/store"),
  ("THUMB_LONG_BRANCH_WITH_LINK", "Long branch with link"),
  ("THUMB_ADD_OFFSET_TO_SP", "Add offset to stack pointer"),
  ("THUMB_PUSH_POP", "Push/pop registers"),
  ("THUMB_LOAD_STORE_HALFWORD", "Load/store halfword"),
  ("THUMB_SP_RELATIVE_LOAD_STORE", "Stack-pointer-relative load/store"),
  ("THUMB_LOAD_ADDRESS", "Load address"),
  ("THUMB_LOAD_STORE_IMM_OFFSET", "Load/store with immediate offset"),
  ("THUMB_LOAD_STORE_REG_OFFSET", "Load/store with register offset"),
  ("THUMB_LOAD_STORE_SIGN_EXTENDED", "Load/store sign-extended byte/halfword"),
  ("THUMB_PC_RELATIVE_LOAD", "Program-counter-relative load"),
  ("THUMB_HI_REG_OP_BX", "Hi-register operation / branch exchange"),
  ("THUMB_ALU_OPERATION", "ALU operation"),
  ("THUMB_MOV_CMP_ADD_SUB_IMM", "Move/compare/add/subtract immediate"),
  ("THUMB_ADD_SUBTRACT", "Add/subtract"),
  ("THUMB_MOVE_SHIFTED_REGISTER", "Move shifted register") ]

/-- The codes of an instruction set. -/
def codes : Isa → List (String × String)
  | .arm => armCodes
  | .thumb => thumbCodes

/-- The identifier of an output code; none for a code that is never output (30_encoding.md R66 to R68). -/
def identifier? (isa : Isa) (k : Idx) : Option String := (codes isa)[k.toNat]?.map (·.1)

/-- The label of an output code; none for a code that is never output (30_encoding.md R66 to R68). -/
def label? (isa : Isa) (k : Idx) : Option String := (codes isa)[k.toNat]?.map (·.2)

/-- The table that `in_isa` selects: 0 is ARM, 1 is Thumb (10_state.md R28). -/
def selectIsa (b : IsaBit) : Isa := if b = 0#1 then .arm else .thumb

/-- The operand of a Thumb request: `in_word[15:0]`, whatever `in_word[31:16]` holds (10_state.md R29, R143). -/
def thumbOperand (w : ArmWord) : ThumbWord := w.setWidth 16

/-- The ARM instruction that stands for row `k`'s result on `w`; every other number is the fallback. -/
def armInstr (k : Nat) (w : ArmWord) : Instr :=
  match k with
  | 1 => .armBranchExchange w
  | 2 => .armBlockDataTransfer w
  | 3 => .armBranch w
  | 4 => .armSoftwareInterrupt w
  | 5 => .armUndefined w
  | 6 => .armSingleDataTransfer w
  | 7 => .armSingleDataSwap w
  | 8 => .armMultiply w
  | 9 => .armHalfwordTransferReg w
  | 10 => .armHalfwordTransferImm w
  | 11 => .armPsrTransferRead w
  | 12 => .armPsrTransferWrite w
  | 13 => .armDataProcessing w
  | _ => .armIllegal w

/-- The Thumb instruction that stands for row `k`'s result on `w`; every other number is the fallback. -/
def thumbInstr (k : Nat) (w : ThumbWord) : Instr :=
  match k with
  | 1 => .thumbSoftwareInterrupt w
  | 2 => .thumbUnconditionalBranch w
  | 3 => .thumbConditionalBranch w
  | 4 => .thumbMultipleLoadStore w
  | 5 => .thumbLongBranchWithLink w
  | 6 => .thumbAddOffsetToSp w
  | 7 => .thumbPushPop w
  | 8 => .thumbLoadStoreHalfword w
  | 9 => .thumbSpRelativeLoadStore w
  | 10 => .thumbLoadAddress w
  | 11 => .thumbLoadStoreImmOffset w
  | 12 => .thumbLoadStoreRegOffset w
  | 13 => .thumbLoadStoreSignExtended w
  | 14 => .thumbPcRelativeLoad w
  | 15 => .thumbHiRegOpBx w
  | 16 => .thumbAluOperation w
  | 17 => .thumbMovCmpAddSubImm w
  | 18 => .thumbAddSubtract w
  | 19 => .thumbMoveShiftedRegister w
  | _ => .thumbIllegal w

/-- The row number a request's word gets from the table its selector asks for: `FirstMatch` over that table. -/
def rowNumber (r : Request) : Nat :=
  match selectIsa r.inIsa with
  | .arm => firstMatch armTable r.inWord
  | .thumb => firstMatch thumbTable (thumbOperand r.inWord)

/-- The decoder: the instruction a request is read as. Total, because every value of (`in_isa`, `in_word`) is a legal
request (30_encoding.md R69): a word no row matches is read as the fallback, which is an ordinary result (R171). -/
def decode (r : Request) : Instr :=
  match selectIsa r.inIsa with
  | .arm => armInstr (rowNumber r) r.inWord
  | .thumb => thumbInstr (rowNumber r) (thumbOperand r.inWord)

/-- The request an ARM word is presented as. -/
def armRequest (w : ArmWord) : Request := ⟨0#1, w⟩

/-- The request a Thumb word is presented as: `in_word = zext_32(w)` (42_host_driver.md R155). -/
def thumbRequest (w : ThumbWord) : Request := ⟨1#1, w.setWidth 32⟩

/-- The encoder: the port values that present an instruction's word. -/
def encode : Instr → Request
  | .armBranchExchange w => armRequest w
  | .armBlockDataTransfer w => armRequest w
  | .armBranch w => armRequest w
  | .armSoftwareInterrupt w => armRequest w
  | .armUndefined w => armRequest w
  | .armSingleDataTransfer w => armRequest w
  | .armSingleDataSwap w => armRequest w
  | .armMultiply w => armRequest w
  | .armHalfwordTransferReg w => armRequest w
  | .armHalfwordTransferImm w => armRequest w
  | .armPsrTransferRead w => armRequest w
  | .armPsrTransferWrite w => armRequest w
  | .armDataProcessing w => armRequest w
  | .armIllegal w => armRequest w
  | .thumbSoftwareInterrupt w => thumbRequest w
  | .thumbUnconditionalBranch w => thumbRequest w
  | .thumbConditionalBranch w => thumbRequest w
  | .thumbMultipleLoadStore w => thumbRequest w
  | .thumbLongBranchWithLink w => thumbRequest w
  | .thumbAddOffsetToSp w => thumbRequest w
  | .thumbPushPop w => thumbRequest w
  | .thumbLoadStoreHalfword w => thumbRequest w
  | .thumbSpRelativeLoadStore w => thumbRequest w
  | .thumbLoadAddress w => thumbRequest w
  | .thumbLoadStoreImmOffset w => thumbRequest w
  | .thumbLoadStoreRegOffset w => thumbRequest w
  | .thumbLoadStoreSignExtended w => thumbRequest w
  | .thumbPcRelativeLoad w => thumbRequest w
  | .thumbHiRegOpBx w => thumbRequest w
  | .thumbAluOperation w => thumbRequest w
  | .thumbMovCmpAddSubImm w => thumbRequest w
  | .thumbAddSubtract w => thumbRequest w
  | .thumbMoveShiftedRegister w => thumbRequest w
  | .thumbIllegal w => thumbRequest w

/-- The `out_idx` that spec/opcode_table.json gives an instruction's row. -/
def Instr.code : Instr → Idx
  | .armBranchExchange _ => 1#5
  | .armBlockDataTransfer _ => 2#5
  | .armBranch _ => 3#5
  | .armSoftwareInterrupt _ => 4#5
  | .armUndefined _ => 5#5
  | .armSingleDataTransfer _ => 6#5
  | .armSingleDataSwap _ => 7#5
  | .armMultiply _ => 8#5
  | .armHalfwordTransferReg _ => 9#5
  | .armHalfwordTransferImm _ => 10#5
  | .armPsrTransferRead _ => 11#5
  | .armPsrTransferWrite _ => 12#5
  | .armDataProcessing _ => 13#5
  | .armIllegal _ => 0#5
  | .thumbSoftwareInterrupt _ => 1#5
  | .thumbUnconditionalBranch _ => 2#5
  | .thumbConditionalBranch _ => 3#5
  | .thumbMultipleLoadStore _ => 4#5
  | .thumbLongBranchWithLink _ => 5#5
  | .thumbAddOffsetToSp _ => 6#5
  | .thumbPushPop _ => 7#5
  | .thumbLoadStoreHalfword _ => 8#5
  | .thumbSpRelativeLoadStore _ => 9#5
  | .thumbLoadAddress _ => 10#5
  | .thumbLoadStoreImmOffset _ => 11#5
  | .thumbLoadStoreRegOffset _ => 12#5
  | .thumbLoadStoreSignExtended _ => 13#5
  | .thumbPcRelativeLoad _ => 14#5
  | .thumbHiRegOpBx _ => 15#5
  | .thumbAluOperation _ => 16#5
  | .thumbMovCmpAddSubImm _ => 17#5
  | .thumbAddSubtract _ => 18#5
  | .thumbMoveShiftedRegister _ => 19#5
  | .thumbIllegal _ => 0#5

/-- The decoder on a word of spec/opcode_table.json: rows of 32 bits are ARM requests and rows of 16 bits are Thumb requests
(30_encoding.md R55). The block has no other width, and no byte order: the number is the value of the word (20_memory.md R41). -/
def decodeTableWord (nbits w : Nat) : Option Instr :=
  if nbits = 32 then some (decode (armRequest (BitVec.ofNat 32 w)))
  else if nbits = 16 then some (decode (thumbRequest (BitVec.ofNat 16 w)))
  else none

end Sys2Proof
end

