-- ==== Sys2Proof/Config.lean ====
section
/-! DEFINITION. What is fixed for the machine (00_scope.md R8) and what the spec leaves open: the two open parameters and
the free values. An open value is an opaque constant: nothing can be proved about which value it is. -/

namespace Sys2Proof.Config

/-- `ARM_RULES`, the number of ARM rows and the most tests an ARM request takes (00_scope.md R8, 70_reset_and_hazards.md R195). -/
def armRules : Nat := 13

/-- `THUMB_RULES`, the number of Thumb rows and the most tests a Thumb request takes (00_scope.md R8, R195). -/
def thumbRules : Nat := 19

/-- `ARM_CATEGORIES`: the rows and Illegal (00_scope.md R8, 90_conflicts.md C1). -/
def armCategories : Nat := 14

/-- `THUMB_CATEGORIES`: the rows and Illegal (00_scope.md R8, 90_conflicts.md C2). -/
def thumbCategories : Nat := 20

/-- `USAGE_TEXT`: the text of the driver's usage message, open (92_eei_decisions.md D15). -/
opaque usageText : String

/-- `T_PD`: the propagation delay, open (92_eei_decisions.md D9). No rule reads it (70_reset_and_hazards.md R193) and no
definition of the model does: a request's caller either waits for it (`Job.request`) or does not (`Job.unstable`). -/
opaque propagationDelay : Nat

/-- The value seen on `out_idx` before the inputs have been stable for `T_PD`: any value (70_reset_and_hazards.md R193,
93_implementation_defined.md I2). The argument is a counter, so that every such look at the port is free of the others.
DESIGN CHOICE, log entry 4. -/
opaque unsettledIdx : Nat → Idx

end Sys2Proof.Config
end

