-- ==== Sys2Proof/Machine/State.lean ====
section
/-! DEFINITION. The state. The block itself holds none (10_state.md R20): State holds the values on its three ports (R27),
whether they have settled (70_reset_and_hazards.md R193), and the world around the block: the jobs still to come, the
responses sampled and the driver's finished runs (log entries 1 to 4). Nothing but `inIsa` and `inWord` ever reaches
`outIdx` (R26). -/

namespace Sys2Proof.Machine

/-- Who presents a request (20_memory.md R46: any number of callers; 42_host_driver.md R150: the driver). -/
inductive Caller where
  | driver
  | other (n : Nat)
  deriving DecidableEq, Repr

/-- What the world outside the block does next. -/
inductive Job where
  /-- A caller presents a request, holds it stable for the propagation delay and samples `out_idx` (R33, R193). -/
  | request (c : Caller) (r : Request)
  /-- A caller changes the inputs and looks at `out_idx` without holding them stable (R193). -/
  | unstable (c : Caller) (r : Request)
  /-- The driver is run with these arguments (42_host_driver.md). -/
  | run (argv : List String)
  deriving DecidableEq, Repr

/-- A sampled `out_idx`, with the inputs it was sampled under and whether they had settled (R33, R193). -/
structure Response where
  caller : Caller
  request : Request
  idx : Idx
  stable : Bool
  deriving DecidableEq, Repr

/-- What a finished run of the driver leaves: the lines on its two output streams and its exit status (R160). -/
structure RunRecord where
  argv : List String
  stdout : List String
  stderr : List String
  exit : Nat
  deriving DecidableEq, Repr

structure State where
  /-- The value on port `in_isa` (R27, R28). -/
  inIsa : IsaBit
  /-- The value on port `in_word` (R27, R29). -/
  inWord : ArmWord
  /-- The value on port `out_idx` (R27, R30). -/
  outIdx : Idx
  /-- Whether the inputs have been stable for the propagation delay (R193). -/
  settled : Bool
  /-- What the outside world does next, oldest first. -/
  jobs : List Job
  /-- The responses sampled so far, oldest first. -/
  responses : List Response
  /-- The driver's finished runs, oldest first. -/
  runs : List RunRecord
  /-- The model's own: how many free values have been used (log entry 4). -/
  freeCount : Nat
  deriving DecidableEq, Repr

inductive Fault where
  /-- A consumer read a code that is never output for the instruction set it asked (30_encoding.md R68,
  93_implementation_defined.md I1). Raised by the driver's label lookup. Safe: the model stops, and claims nothing after it. -/
  | codeNeverOutput
  deriving DecidableEq, Repr

inductive Refusal where
  /-- Raised by a refused arm of `exec`: the instruction has no meaning yet. Safe. -/
  | notModelled (mnemonic : String)
  /-- Raised by the driver on an argument of length 4 or 8 with a character that is no hex digit (42_host_driver.md R158,
  93_implementation_defined.md I4: a model refuses the run). Safe. -/
  | hostNonHexArgument
  /-- Raised by the driver on more than one argument (R151, I5: a model refuses the run). Safe. -/
  | hostManyArguments
  deriving DecidableEq, Repr

/-- Nothing has been presented, sampled or run (70_reset_and_hazards.md R190). The values on the input ports are the model's
choice, 0 and 0 (DESIGN CHOICE, log entry 2), and `out_idx` is what R190 then gives: `Classify` of them, 13. -/
def State.reset : State where
  inIsa := 0#1
  inWord := 0x00000000#32
  outIdx := 13#5
  settled := true
  jobs := []
  responses := []
  runs := []
  freeCount := 0

end Sys2Proof.Machine
end

