-- ==== Sys2Proof/Machine/Operands.lean ====
section
/-! DEFINITION. The operands: the block has two and no other (30_encoding.md R61): the ISA selector and the word on the
ports, read here in one place (`thumbOperand`, beside the decoder, cuts a Thumb word from the port). No field of the word is
extracted, extended or shifted. -/

namespace Sys2Proof.Machine

/-- The two inputs as they stand on the ports: what the block reads, and all it reads (10_state.md R33). -/
def State.onPorts (s : State) : Request := ⟨s.inIsa, s.inWord⟩

/-- The instruction set the selector asks for (R28). -/
def State.isa (s : State) : Isa := selectIsa s.inIsa

/-- The instruction the inputs are read as, its operand `in_word[31:0]` or `in_word[15:0]` (R29, `thumbOperand`). -/
def State.fetched (s : State) : Instr := decode s.onPorts

end Sys2Proof.Machine
end

