-- ==== Sys2Proof/Machine/Ops.lean ====
section
/-! DEFINITION. The named operations on the ports and the logs. There is no memory operation, because the block has no
memory (20_memory.md R40), and no taking of an exception and no return from one, because the block raises none
(60_exceptions.md R170, R175, R176). -/

namespace Sys2Proof.Machine

/-- `out_idx <- k` on stable inputs: the port has settled at `k` (00_scope.md R13, 10_state.md R33). -/
def State.drive (s : State) (k : Idx) : State := { s with outIdx := k, settled := true }

/-- A row's rule: `if <condition>: out_idx <- k` (40_arm_classifier.md R101 to R114, 41_thumb_classifier.md R121 to R140).
The rules have no else branch: a row whose condition fails drives nothing (DEDUCED, log entry 5). -/
def rowRule (fires : Bool) (k : Idx) (s : State) : Host.Outcome State Fault Refusal :=
  .next (if fires then s.drive k else s)

/-- A caller puts a request on the input ports; the output has not settled yet (70_reset_and_hazards.md R193). -/
def State.present (s : State) (r : Request) : State :=
  { s with inIsa := r.inIsa, inWord := r.inWord, settled := false }

/-- The output before it has settled: a free value, of which nothing is known (R193, I2, log entry 4). -/
def State.unsettle (s : State) : State :=
  { s with outIdx := Config.unsettledIdx s.freeCount, settled := false, freeCount := s.freeCount + 1 }

/-- A caller samples `out_idx` (10_state.md R33). -/
def State.sample (s : State) (c : Caller) : State :=
  { s with responses := s.responses ++ [⟨c, s.onPorts, s.outIdx, s.settled⟩] }

/-- A run of the driver ends. -/
def State.logRun (s : State) (r : RunRecord) : State := { s with runs := s.runs ++ [r] }

/-- Goes on from a next state; a fault or a refusal stays. -/
def andThen (o : Host.Outcome State Fault Refusal) (f : State → Host.Outcome State Fault Refusal) :
    Host.Outcome State Fault Refusal :=
  match o with
  | .next s => f s
  | .fault x => .fault x
  | .refused x => .refused x

end Sys2Proof.Machine
end

