-- ==== Sys2Proof/Machine/ArmRows.lean ====
section
/-! DEFINITION. The meanings of the 13 ARM rows and of the ARM fallback (40_arm_classifier.md R101 to R114): each writes its own
number to `out_idx`, writes no flag, raises no exception and executes nothing (60_exceptions.md R170, R172). -/

namespace Sys2Proof.Machine

/-- R101: row 1 gives "Branch and exchange": `out_idx <- 1` when the word matches row 1 and no earlier row. -/
def execArmBranchExchange (w : ArmWord) (s : State) : Host.Outcome State Fault Refusal :=
  rowRule (rowWins armTable 1 w) 1#5 s

/-- R102: row 2 gives "Block data transfer": `out_idx <- 2` when the word matches row 2 and no earlier row. -/
def execArmBlockDataTransfer (w : ArmWord) (s : State) : Host.Outcome State Fault Refusal :=
  rowRule (rowWins armTable 2 w) 2#5 s

/-- R103: row 3 gives "Branch / branch with link": `out_idx <- 3` when the word matches row 3 and no earlier row. -/
def execArmBranch (w : ArmWord) (s : State) : Host.Outcome State Fault Refusal :=
  rowRule (rowWins armTable 3 w) 3#5 s

/-- R104: row 4 gives "Software interrupt": `out_idx <- 4` when the word matches row 4 and no earlier row. -/
def execArmSoftwareInterrupt (w : ArmWord) (s : State) : Host.Outcome State Fault Refusal :=
  rowRule (rowWins armTable 4 w) 4#5 s

/-- R105: row 5 gives "Undefined": `out_idx <- 5` when the word matches row 5 and no earlier row. -/
def execArmUndefined (w : ArmWord) (s : State) : Host.Outcome State Fault Refusal :=
  rowRule (rowWins armTable 5 w) 5#5 s

/-- R106: row 6 gives "Single data transfer": `out_idx <- 6` when the word matches row 6 and no earlier row. -/
def execArmSingleDataTransfer (w : ArmWord) (s : State) : Host.Outcome State Fault Refusal :=
  rowRule (rowWins armTable 6 w) 6#5 s

/-- R107: row 7 gives "Single data swap": `out_idx <- 7` when the word matches row 7 and no earlier row. -/
def execArmSingleDataSwap (w : ArmWord) (s : State) : Host.Outcome State Fault Refusal :=
  rowRule (rowWins armTable 7 w) 7#5 s

/-- R108: row 8 gives "Multiply / multiply long": `out_idx <- 8` when the word matches row 8 and no earlier row. -/
def execArmMultiply (w : ArmWord) (s : State) : Host.Outcome State Fault Refusal :=
  rowRule (rowWins armTable 8 w) 8#5 s

/-- R109: row 9 gives "Halfword transfer (register offset)": `out_idx <- 9` when the word matches row 9 and no earlier row. -/
def execArmHalfwordTransferReg (w : ArmWord) (s : State) : Host.Outcome State Fault Refusal :=
  rowRule (rowWins armTable 9 w) 9#5 s

/-- R110: row 10 gives "Halfword transfer (immediate offset)": `out_idx <- 10` when the word matches row 10 and no earlier row. -/
def execArmHalfwordTransferImm (w : ArmWord) (s : State) : Host.Outcome State Fault Refusal :=
  rowRule (rowWins armTable 10 w) 10#5 s

/-- R111: row 11 gives "PSR transfer (read)": `out_idx <- 11` when the word matches row 11 and no earlier row. -/
def execArmPsrTransferRead (w : ArmWord) (s : State) : Host.Outcome State Fault Refusal :=
  rowRule (rowWins armTable 11 w) 11#5 s

/-- R112: row 12 gives "PSR transfer (write)": `out_idx <- 12` when the word matches row 12 and no earlier row. -/
def execArmPsrTransferWrite (w : ArmWord) (s : State) : Host.Outcome State Fault Refusal :=
  rowRule (rowWins armTable 12 w) 12#5 s

/-- R113: row 13 gives "Data processing": `out_idx <- 13` when the word matches row 13 and no earlier row. -/
def execArmDataProcessing (w : ArmWord) (s : State) : Host.Outcome State Fault Refusal :=
  rowRule (rowWins armTable 13 w) 13#5 s

/-- R114: the fallback gives "Illegal instruction": `out_idx <- 0` when no row matches. A result, no error and no trap (R171). -/
def execArmIllegal (w : ArmWord) (s : State) : Host.Outcome State Fault Refusal :=
  rowRule (noneHit armTable w) 0#5 s

end Sys2Proof.Machine
end

