-- ==== Sys2Proof/Machine/ThumbRows.lean ====
section
/-! DEFINITION. The meanings of the 19 Thumb rows and of the Thumb fallback (41_thumb_classifier.md R121 to R140): each writes its own
number to `out_idx`, writes no flag, raises no exception and executes nothing (60_exceptions.md R170, R172). -/

namespace Sys2Proof.Machine

/-- R121: row 1 gives "Software interrupt": `out_idx <- 1` when the word matches row 1 and no earlier row. -/
def execThumbSoftwareInterrupt (w : ThumbWord) (s : State) : Host.Outcome State Fault Refusal :=
  rowRule (rowWins thumbTable 1 w) 1#5 s

/-- R122: row 2 gives "Unconditional branch": `out_idx <- 2` when the word matches row 2 and no earlier row. -/
def execThumbUnconditionalBranch (w : ThumbWord) (s : State) : Host.Outcome State Fault Refusal :=
  rowRule (rowWins thumbTable 2 w) 2#5 s

/-- R123: row 3 gives "Conditional branch": `out_idx <- 3` when the word matches row 3 and no earlier row. -/
def execThumbConditionalBranch (w : ThumbWord) (s : State) : Host.Outcome State Fault Refusal :=
  rowRule (rowWins thumbTable 3 w) 3#5 s

/-- R124: row 4 gives "Multiple load/store": `out_idx <- 4` when the word matches row 4 and no earlier row. -/
def execThumbMultipleLoadStore (w : ThumbWord) (s : State) : Host.Outcome State Fault Refusal :=
  rowRule (rowWins thumbTable 4 w) 4#5 s

/-- R125: row 5 gives "Long branch with link": `out_idx <- 5` when the word matches row 5 and no earlier row. -/
def execThumbLongBranchWithLink (w : ThumbWord) (s : State) : Host.Outcome State Fault Refusal :=
  rowRule (rowWins thumbTable 5 w) 5#5 s

/-- R126: row 6 gives "Add offset to stack pointer": `out_idx <- 6` when the word matches row 6 and no earlier row. -/
def execThumbAddOffsetToSp (w : ThumbWord) (s : State) : Host.Outcome State Fault Refusal :=
  rowRule (rowWins thumbTable 6 w) 6#5 s

/-- R127: row 7 gives "Push/pop registers": `out_idx <- 7` when the word matches row 7 and no earlier row. -/
def execThumbPushPop (w : ThumbWord) (s : State) : Host.Outcome State Fault Refusal :=
  rowRule (rowWins thumbTable 7 w) 7#5 s

/-- R128: row 8 gives "Load/store halfword": `out_idx <- 8` when the word matches row 8 and no earlier row. -/
def execThumbLoadStoreHalfword (w : ThumbWord) (s : State) : Host.Outcome State Fault Refusal :=
  rowRule (rowWins thumbTable 8 w) 8#5 s

/-- R129: row 9 gives "Stack-pointer-relative load/store": `out_idx <- 9` when the word matches row 9 and no earlier row. -/
def execThumbSpRelativeLoadStore (w : ThumbWord) (s : State) : Host.Outcome State Fault Refusal :=
  rowRule (rowWins thumbTable 9 w) 9#5 s

/-- R130: row 10 gives "Load address": `out_idx <- 10` when the word matches row 10 and no earlier row. -/
def execThumbLoadAddress (w : ThumbWord) (s : State) : Host.Outcome State Fault Refusal :=
  rowRule (rowWins thumbTable 10 w) 10#5 s

/-- R131: row 11 gives "Load/store with immediate offset": `out_idx <- 11` when the word matches row 11 and no earlier row. -/
def execThumbLoadStoreImmOffset (w : ThumbWord) (s : State) : Host.Outcome State Fault Refusal :=
  rowRule (rowWins thumbTable 11 w) 11#5 s

/-- R132: row 12 gives "Load/store with register offset": `out_idx <- 12` when the word matches row 12 and no earlier row. -/
def execThumbLoadStoreRegOffset (w : ThumbWord) (s : State) : Host.Outcome State Fault Refusal :=
  rowRule (rowWins thumbTable 12 w) 12#5 s

/-- R133: row 13 gives "Load/store sign-extended byte/halfword": `out_idx <- 13` when the word matches row 13 and no earlier row. -/
def execThumbLoadStoreSignExtended (w : ThumbWord) (s : State) : Host.Outcome State Fault Refusal :=
  rowRule (rowWins thumbTable 13 w) 13#5 s

/-- R134: row 14 gives "Program-counter-relative load": `out_idx <- 14` when the word matches row 14 and no earlier row. -/
def execThumbPcRelativeLoad (w : ThumbWord) (s : State) : Host.Outcome State Fault Refusal :=
  rowRule (rowWins thumbTable 14 w) 14#5 s

/-- R135: row 15 gives "Hi-register operation / branch exchange": `out_idx <- 15` when the word matches row 15 and no earlier row. -/
def execThumbHiRegOpBx (w : ThumbWord) (s : State) : Host.Outcome State Fault Refusal :=
  rowRule (rowWins thumbTable 15 w) 15#5 s

/-- R136: row 16 gives "ALU operation": `out_idx <- 16` when the word matches row 16 and no earlier row. -/
def execThumbAluOperation (w : ThumbWord) (s : State) : Host.Outcome State Fault Refusal :=
  rowRule (rowWins thumbTable 16 w) 16#5 s

/-- R137: row 17 gives "Move/compare/add/subtract immediate": `out_idx <- 17` when the word matches row 17 and no earlier row. -/
def execThumbMovCmpAddSubImm (w : ThumbWord) (s : State) : Host.Outcome State Fault Refusal :=
  rowRule (rowWins thumbTable 17 w) 17#5 s

/-- R138: row 18 gives "Add/subtract": `out_idx <- 18` when the word matches row 18 and no earlier row. -/
def execThumbAddSubtract (w : ThumbWord) (s : State) : Host.Outcome State Fault Refusal :=
  rowRule (rowWins thumbTable 18 w) 18#5 s

/-- R139: row 19 gives "Move shifted register": `out_idx <- 19` when the word matches row 19 and no earlier row. -/
def execThumbMoveShiftedRegister (w : ThumbWord) (s : State) : Host.Outcome State Fault Refusal :=
  rowRule (rowWins thumbTable 19 w) 19#5 s

/-- R140: the fallback gives "Illegal instruction": `out_idx <- 0` when no row matches. A result, no error and no trap (R171). -/
def execThumbIllegal (w : ThumbWord) (s : State) : Host.Outcome State Fault Refusal :=
  rowRule (noneHit thumbTable w) 0#5 s

end Sys2Proof.Machine
end

