-- ==== Sys2Proof/Machine/Dispatch.lean ====
section
/-! DEFINITION. The dispatch: one arm per constructor of Instr, each one call of that row's meaning. -/

namespace Sys2Proof.Machine

-- The effect of an instruction on the machine.
def exec (i : Instr) (s : State) : Host.Outcome State Fault Refusal :=
  match i with
  | .armBranchExchange w => Sys2Proof.Machine.execArmBranchExchange w s
  | .armBlockDataTransfer w => Sys2Proof.Machine.execArmBlockDataTransfer w s
  | .armBranch w => Sys2Proof.Machine.execArmBranch w s
  | .armSoftwareInterrupt w => Sys2Proof.Machine.execArmSoftwareInterrupt w s
  | .armUndefined w => Sys2Proof.Machine.execArmUndefined w s
  | .armSingleDataTransfer w => Sys2Proof.Machine.execArmSingleDataTransfer w s
  | .armSingleDataSwap w => Sys2Proof.Machine.execArmSingleDataSwap w s
  | .armMultiply w => Sys2Proof.Machine.execArmMultiply w s
  | .armHalfwordTransferReg w => Sys2Proof.Machine.execArmHalfwordTransferReg w s
  | .armHalfwordTransferImm w => Sys2Proof.Machine.execArmHalfwordTransferImm w s
  | .armPsrTransferRead w => Sys2Proof.Machine.execArmPsrTransferRead w s
  | .armPsrTransferWrite w => Sys2Proof.Machine.execArmPsrTransferWrite w s
  | .armDataProcessing w => Sys2Proof.Machine.execArmDataProcessing w s
  | .armIllegal w => Sys2Proof.Machine.execArmIllegal w s
  | .thumbSoftwareInterrupt w => Sys2Proof.Machine.execThumbSoftwareInterrupt w s
  | .thumbUnconditionalBranch w => Sys2Proof.Machine.execThumbUnconditionalBranch w s
  | .thumbConditionalBranch w => Sys2Proof.Machine.execThumbConditionalBranch w s
  | .thumbMultipleLoadStore w => Sys2Proof.Machine.execThumbMultipleLoadStore w s
  | .thumbLongBranchWithLink w => Sys2Proof.Machine.execThumbLongBranchWithLink w s
  | .thumbAddOffsetToSp w => Sys2Proof.Machine.execThumbAddOffsetToSp w s
  | .thumbPushPop w => Sys2Proof.Machine.execThumbPushPop w s
  | .thumbLoadStoreHalfword w => Sys2Proof.Machine.execThumbLoadStoreHalfword w s
  | .thumbSpRelativeLoadStore w => Sys2Proof.Machine.execThumbSpRelativeLoadStore w s
  | .thumbLoadAddress w => Sys2Proof.Machine.execThumbLoadAddress w s
  | .thumbLoadStoreImmOffset w => Sys2Proof.Machine.execThumbLoadStoreImmOffset w s
  | .thumbLoadStoreRegOffset w => Sys2Proof.Machine.execThumbLoadStoreRegOffset w s
  | .thumbLoadStoreSignExtended w => Sys2Proof.Machine.execThumbLoadStoreSignExtended w s
  | .thumbPcRelativeLoad w => Sys2Proof.Machine.execThumbPcRelativeLoad w s
  | .thumbHiRegOpBx w => Sys2Proof.Machine.execThumbHiRegOpBx w s
  | .thumbAluOperation w => Sys2Proof.Machine.execThumbAluOperation w s
  | .thumbMovCmpAddSubImm w => Sys2Proof.Machine.execThumbMovCmpAddSubImm w s
  | .thumbAddSubtract w => Sys2Proof.Machine.execThumbAddSubtract w s
  | .thumbMoveShiftedRegister w => Sys2Proof.Machine.execThumbMoveShiftedRegister w s
  | .thumbIllegal w => Sys2Proof.Machine.execThumbIllegal w s

end Sys2Proof.Machine
end

