-- ==== Sys2Proof/Machine/Driver.lean ====
section
/-! DEFINITION. The command-line driver (42_host_driver.md): what it makes of its arguments, and what it writes once the
block has answered. -/

namespace Sys2Proof.Machine

/-- The value of a hex digit, in either letter case (R155, 92_eei_decisions.md D16); none for any other character. -/
def hexDigit? (c : Char) : Option Nat :=
  let n := c.toNat
  if 48 ≤ n ∧ n ≤ 57 then some (n - 48)
  else if 97 ≤ n ∧ n ≤ 102 then some (n - 87)
  else if 65 ≤ n ∧ n ≤ 70 then some (n - 55)
  else none

/-- The base-16 value of a digit string read from the left, `acc` being the value of the digits before it. -/
def hexValueFrom (acc : Nat) : List Char → Option Nat
  | [] => some acc
  | c :: rest =>
    match hexDigit? c with
    | some d => hexValueFrom (acc * 16 + d) rest
    | none => none

/-- The base-16 value of a digit string; none when a character is no hex digit (R155, R158). -/
def hexValue? (cs : List Char) : Option Nat := hexValueFrom 0 cs

/-- The message of a wrong length (R154). -/
def formatMessage : String := "Incorrect instruction format. Expected 32-bit or 16-bit hex value"

/-- The instruction set a length asks for: 8 digits ARM, 4 digits Thumb (R153). -/
def lengthIsa? (n : Nat) : Option IsaBit :=
  if n = 8 then some 0#1 else if n = 4 then some 1#1 else none

/-- What the driver does with its arguments. -/
inductive DriverPlan where
  /-- It ends without a block request, leaving this record. -/
  | finish (r : RunRecord)
  /-- It presents this request and prints the answer. -/
  | ask (r : Request)
  /-- The spec gives the run no meaning. -/
  | refuse (x : Refusal)
  deriving DecidableEq, Repr

/-- The driver up to its block request: the argument count (R151, R152), the length (R153, R154), the digits (R155, R158).
The order is the spec's: a wrong length is an error before any digit is looked at (R154, R158). -/
def driverPlan (argv : List String) : DriverPlan :=
  match argv with
  | [] => .finish ⟨argv, [], [Config.usageText], 2⟩
  | [a] =>
    match lengthIsa? a.toList.length with
    | none => .finish ⟨argv, [], [formatMessage], 1⟩
    | some isa =>
      match hexValue? a.toList with
      | none => .refuse .hostNonHexArgument
      | some v => .ask ⟨isa, BitVec.ofNat 32 v⟩
  | _ :: _ :: _ => .refuse .hostManyArguments

/-- The output prefix of an instruction set (R157, 90_conflicts.md C8, D12). -/
def printPrefix : Isa → String
  | .arm => "ARM: "
  | .thumb => "THUMB: "

/-- The driver after the block has answered: it reads `out_idx`, writes one line and exits with status 0 (R157). A code with
no label means a broken implementation (30_encoding.md R68, I1). -/
def driverPrint (argv : List String) (s : State) : Host.Outcome State Fault Refusal :=
  match label? s.isa s.outIdx with
  | some l => .next (s.logRun ⟨argv, [printPrefix s.isa ++ l], [], 0⟩)
  | none => .fault .codeNeverOutput

end Sys2Proof.Machine
end

