-- ==== Sys2Proof/Machine/Serve.lean ====
section
/-! DEFINITION. What one step does for each kind of job. The block is combinational, so a whole request (present, settle,
sample) is one step (10_state.md R33, 70_reset_and_hazards.md R196). -/

namespace Sys2Proof.Machine

/-- The block settles on the inputs: they are decoded, and the row they select drives the output. -/
def evaluate (s : State) : Host.Outcome State Fault Refusal := exec s.fetched s

/-- No job waits: the inputs stay as they are, and the output is `Classify` of them (70_reset_and_hazards.md R190). -/
def serveIdle (s : State) : Host.Outcome State Fault Refusal := evaluate s

/-- A stable request: presented, settled, sampled (R33, R193). -/
def serveRequest (c : Caller) (r : Request) (s : State) : Host.Outcome State Fault Refusal :=
  andThen (evaluate (s.present r)) fun t => .next (t.sample c)

/-- A caller that does not hold the inputs stable: what it sees is a free value (R193). -/
def serveUnstable (c : Caller) (r : Request) (s : State) : Host.Outcome State Fault Refusal :=
  .next ((s.present r).unsettle.sample c)

/-- A run of the driver: at most one block request (42_host_driver.md R152, R154, R156). -/
def serveRun (argv : List String) (s : State) : Host.Outcome State Fault Refusal :=
  match driverPlan argv with
  | .finish r => .next (s.logRun r)
  | .ask r => andThen (serveRequest .driver r s) (driverPrint argv)
  | .refuse x => .refused x

/-- One job. -/
def serve (j : Job) (s : State) : Host.Outcome State Fault Refusal :=
  match j with
  | .request c r => serveRequest c r s
  | .unstable c r => serveUnstable c r s
  | .run argv => serveRun argv s

end Sys2Proof.Machine
end

