-- ==== Sys2Proof/Machine/Step.lean ====
section
/-! DEFINITION. The step: the oldest job is taken off the list and served; with no job waiting the inputs settle. -/

namespace Sys2Proof.Machine

/-- One step of the machine. -/
def step (s : State) : Host.Outcome State Fault Refusal :=
  match s.jobs with
  | [] => serveIdle s
  | j :: rest => serve j { s with jobs := rest }

/-- `s` with a stable request at the head of the jobs: 16 bits are a Thumb word, every other width an ARM word
(30_encoding.md R55). The block has no program: a request comes from outside it (log entry 3). -/
def State.withFetchWord (s : State) (nbits w : Nat) : State :=
  let r := if nbits = 16 then thumbRequest (BitVec.ofNat 16 w) else armRequest (BitVec.ofNat 32 w)
  { s with jobs := .request (.other 0) r :: s.jobs }

end Sys2Proof.Machine
end

