-- ==== Sys2Proof/Machine/Classify.lean ====
section
/-! DEFINITION. The two sequential definitions the spec gives the whole function (40_arm_classifier.md R100,
41_thumb_classifier.md R120), the Thumb high-byte table (30_encoding.md R60) and `Classify` (10_state.md R33). They are
written from those rules' own text, apart from the row tables: the step does not call them, and statements compare the two. -/

namespace Sys2Proof.Machine

/-- `ArmClassify`, the tests in the order of R100. -/
def armClassify (w : ArmWord) : Nat :=
  if w &&& 0x0FFFFFF0#32 = 0x012FFF10#32 then 1
  else if w &&& 0x0E000000#32 = 0x08000000#32 then 2
  else if w &&& 0x0E000000#32 = 0x0A000000#32 then 3
  else if w &&& 0x0F000000#32 = 0x0F000000#32 then 4
  else if w &&& 0x0E000010#32 = 0x06000010#32 then 5
  else if w &&& 0x0C000000#32 = 0x04000000#32 then 6
  else if w &&& 0x0F800FF0#32 = 0x01000090#32 then 7
  else if w &&& 0x0F0000F0#32 = 0x00000090#32 then 8
  else if w &&& 0x0E400F90#32 = 0x00000090#32 then 9
  else if w &&& 0x0E400090#32 = 0x00400090#32 then 10
  else if w &&& 0x0FBF0000#32 = 0x010F0000#32 then 11
  else if w &&& 0x0DB0F000#32 = 0x0120F000#32 then 12
  else if w &&& 0x0C000000#32 = 0x00000000#32 then 13
  else 0

/-- `ThumbClassify`, the tests in the order of R120. -/
def thumbClassify (w : ThumbWord) : Nat :=
  if w &&& 0xFF00#16 = 0xDF00#16 then 1
  else if w &&& 0xF800#16 = 0xE000#16 then 2
  else if w &&& 0xF000#16 = 0xD000#16 then 3
  else if w &&& 0xF000#16 = 0xC000#16 then 4
  else if w &&& 0xF000#16 = 0xF000#16 then 5
  else if w &&& 0xFF00#16 = 0xB000#16 then 6
  else if w &&& 0xF600#16 = 0xB400#16 then 7
  else if w &&& 0xF000#16 = 0x8000#16 then 8
  else if w &&& 0xF000#16 = 0x9000#16 then 9
  else if w &&& 0xF000#16 = 0xA000#16 then 10
  else if w &&& 0xE000#16 = 0x6000#16 then 11
  else if w &&& 0xF200#16 = 0x5000#16 then 12
  else if w &&& 0xF200#16 = 0x5200#16 then 13
  else if w &&& 0xF800#16 = 0x4800#16 then 14
  else if w &&& 0xFC00#16 = 0x4400#16 then 15
  else if w &&& 0xFC00#16 = 0x4000#16 then 16
  else if w &&& 0xE000#16 = 0x2000#16 then 17
  else if w &&& 0xF800#16 = 0x1800#16 then 18
  else if w &&& 0xE000#16 = 0x0000#16 then 19
  else 0

/-- The 256-entry table of R60: one line per upper nibble (bits 15:12), one column per lower nibble (bits 11:8). -/
def highByteTable : List (List Nat) := [
  [19, 19, 19, 19, 19, 19, 19, 19, 19, 19, 19, 19, 19, 19, 19, 19],
  [19, 19, 19, 19, 19, 19, 19, 19, 18, 18, 18, 18, 18, 18, 18, 18],
  [17, 17, 17, 17, 17, 17, 17, 17, 17, 17, 17, 17, 17, 17, 17, 17],
  [17, 17, 17, 17, 17, 17, 17, 17, 17, 17, 17, 17, 17, 17, 17, 17],
  [16, 16, 16, 16, 15, 15, 15, 15, 14, 14, 14, 14, 14, 14, 14, 14],
  [12, 12, 13, 13, 12, 12, 13, 13, 12, 12, 13, 13, 12, 12, 13, 13],
  [11, 11, 11, 11, 11, 11, 11, 11, 11, 11, 11, 11, 11, 11, 11, 11],
  [11, 11, 11, 11, 11, 11, 11, 11, 11, 11, 11, 11, 11, 11, 11, 11],
  [8, 8, 8, 8, 8, 8, 8, 8, 8, 8, 8, 8, 8, 8, 8, 8],
  [9, 9, 9, 9, 9, 9, 9, 9, 9, 9, 9, 9, 9, 9, 9, 9],
  [10, 10, 10, 10, 10, 10, 10, 10, 10, 10, 10, 10, 10, 10, 10, 10],
  [6, 0, 0, 0, 7, 7, 0, 0, 0, 0, 0, 0, 7, 7, 0, 0],
  [4, 4, 4, 4, 4, 4, 4, 4, 4, 4, 4, 4, 4, 4, 4, 4],
  [3, 3, 3, 3, 3, 3, 3, 3, 3, 3, 3, 3, 3, 3, 3, 1],
  [2, 2, 2, 2, 2, 2, 2, 2, 0, 0, 0, 0, 0, 0, 0, 0],
  [5, 5, 5, 5, 5, 5, 5, 5, 5, 5, 5, 5, 5, 5, 5, 5] ]

/-- The entry of R60's table for a high byte. -/
def highByteEntry (b : BitVec 8) : Nat := ((highByteTable[b.toNat / 16]?.getD [])[b.toNat % 16]?).getD 0

/-- `Classify` (R33), on the values of the two input ports; the number is carried on 5 bits (R30). -/
def classify (r : Request) : Idx :=
  match selectIsa r.inIsa with
  | .arm => BitVec.ofNat 5 (armClassify r.inWord)
  | .thumb => BitVec.ofNat 5 (thumbClassify (thumbOperand r.inWord))

end Sys2Proof.Machine
end

