-- ==== Sys2Proof/Machine/Flags.lean ====
section
/-! DEFINITION. The block has no status flag and no row writes one (10_state.md R23). What it has in their place are wires:
the match bits of stage 1 (R31) and the priority encoder of stage 2 (R32). They are functions, not state; the step takes the
sequential definition, and a statement says that the two agree. -/

namespace Sys2Proof.Machine

/-- Stage 1: one match bit per row of the selected table, `m[1]` first (R31). -/
def matchBits (r : Request) : List Bool :=
  match selectIsa r.inIsa with
  | .arm => armTable.map fun row => row.hit r.inWord
  | .thumb => thumbTable.map fun row => row.hit (Sys2Proof.thumbOperand r.inWord)

/-- Stage 2: the number of the lowest set bit, counted from 1, or 0 when no bit is set (R32). -/
def priorityEncode : List Bool → Nat
  | [] => 0
  | true :: _ => 1
  | false :: rest => if priorityEncode rest = 0 then 0 else priorityEncode rest + 1

/-- The two stages, one after the other. -/
def circuitIdx (r : Request) : Idx := BitVec.ofNat 5 (priorityEncode (matchBits r))

end Sys2Proof.Machine
end

