-- ==== Sys2Proof/WellFormed.lean ====
section
/-! DEFINITION. Well-formedness: an instruction is well formed when its word lies in the effective set of its row
(00_scope.md R15): the row matches and no earlier row does, or, for a fallback, no row matches. -/

namespace Sys2Proof

/-- The check of an instruction: one line per row, each the condition of that row's rule. -/
def Instr.wellFormed : Instr → Bool
  | .armBranchExchange w => rowWins armTable 1 w
  | .armBlockDataTransfer w => rowWins armTable 2 w
  | .armBranch w => rowWins armTable 3 w
  | .armSoftwareInterrupt w => rowWins armTable 4 w
  | .armUndefined w => rowWins armTable 5 w
  | .armSingleDataTransfer w => rowWins armTable 6 w
  | .armSingleDataSwap w => rowWins armTable 7 w
  | .armMultiply w => rowWins armTable 8 w
  | .armHalfwordTransferReg w => rowWins armTable 9 w
  | .armHalfwordTransferImm w => rowWins armTable 10 w
  | .armPsrTransferRead w => rowWins armTable 11 w
  | .armPsrTransferWrite w => rowWins armTable 12 w
  | .armDataProcessing w => rowWins armTable 13 w
  | .armIllegal w => noneHit armTable w
  | .thumbSoftwareInterrupt w => rowWins thumbTable 1 w
  | .thumbUnconditionalBranch w => rowWins thumbTable 2 w
  | .thumbConditionalBranch w => rowWins thumbTable 3 w
  | .thumbMultipleLoadStore w => rowWins thumbTable 4 w
  | .thumbLongBranchWithLink w => rowWins thumbTable 5 w
  | .thumbAddOffsetToSp w => rowWins thumbTable 6 w
  | .thumbPushPop w => rowWins thumbTable 7 w
  | .thumbLoadStoreHalfword w => rowWins thumbTable 8 w
  | .thumbSpRelativeLoadStore w => rowWins thumbTable 9 w
  | .thumbLoadAddress w => rowWins thumbTable 10 w
  | .thumbLoadStoreImmOffset w => rowWins thumbTable 11 w
  | .thumbLoadStoreRegOffset w => rowWins thumbTable 12 w
  | .thumbLoadStoreSignExtended w => rowWins thumbTable 13 w
  | .thumbPcRelativeLoad w => rowWins thumbTable 14 w
  | .thumbHiRegOpBx w => rowWins thumbTable 15 w
  | .thumbAluOperation w => rowWins thumbTable 16 w
  | .thumbMovCmpAddSubImm w => rowWins thumbTable 17 w
  | .thumbAddSubtract w => rowWins thumbTable 18 w
  | .thumbMoveShiftedRegister w => rowWins thumbTable 19 w
  | .thumbIllegal w => noneHit thumbTable w

end Sys2Proof
end

