-- ==== Sys2Proof/Safety.lean ====
section
/-! DEFINITION. The terms in which claims about the machine are made: when a state is as the block's rules leave it, what a
caller asked and what a caller got. -/

namespace Sys2Proof.Machine

/-- A settled output is `Classify` of the inputs (10_state.md R33, 70_reset_and_hazards.md R190). -/
def State.OutputRight (s : State) : Prop := s.settled = true → s.outIdx = classify s.onPorts

/-- A stable response is `Classify` of its own request (R26, R33). -/
def Response.Right (r : Response) : Prop := r.stable = true → r.idx = classify r.request

/-- The invariant: the output and every response logged are right. -/
def State.Inv (s : State) : Prop := s.OutputRight ∧ ∀ r ∈ s.responses, r.Right

/-- The request of a job that is a stable request. -/
def Job.request? : Job → Option (Caller × Request)
  | .request c r => some (c, r)
  | .unstable _ _ => none
  | .run _ => none

/-- The response R33 gives a caller's request. -/
def answer (q : Caller × Request) : Response := ⟨q.1, q.2, classify q.2, true⟩

/-- `s` with a stable request at the head of its jobs. -/
def State.asked (s : State) (c : Caller) (r : Request) : State := { s with jobs := .request c r :: s.jobs }

/-- `s` with a run of the driver at the head of its jobs. -/
def State.ran (s : State) (argv : List String) : State := { s with jobs := .run argv :: s.jobs }

end Sys2Proof.Machine
end

