-- ==== Sys2Proof/Certificates/Slice0/Obligations.lean ====
section
/-! DEFINITION. The statements for the provers. Where a clause rests on a choice of the spec's own (a decision D<n> of
92_eei_decisions.md) or of the model's (a log entry), its docstring says so. -/

open Sys2Proof Sys2Proof.Machine

/-! ## Reset, the invariant, the step -/

/-- 70_reset_and_hazards.md R190, R192: at reset nothing has been presented, sampled or run, and `out_idx` is `Classify` of
what stands on the input ports. That those are 0 and 0 is the model's choice (log entry 2). -/
def Obligations.ResetIsEmptyAndClassifiesItsInputs : Prop :=
  State.reset.jobs = [] ∧ State.reset.responses = [] ∧ State.reset.runs = [] ∧
    State.reset.outIdx = classify State.reset.onPorts

/-- The base case of the next statement: at reset a settled output is `Classify` of the inputs (10_state.md R33,
70_reset_and_hazards.md R190), and no response has been logged. The values of `inIsa`, `inWord` and `settled` at reset are the
model's choice (DESIGN CHOICE, log entry 2). -/
def Obligations.ResetMeetsTheInvariant : Prop := State.reset.Inv

/-- 10_state.md R26, R33 and 70_reset_and_hazards.md R193: a settled output is `Classify` of the inputs, and so is every
stable response ever sampled; whatever job a step serves, it stays so. -/
def Obligations.StepKeepsOutputAndResponsesRight : Prop :=
  ∀ s s' : State, s.Inv → step s = .next s' → s'.Inv

/-- 70_reset_and_hazards.md R190: with no job waiting, a step leaves everything as it is but lets the output settle at
`Classify` of the values on the ports. -/
def Obligations.IdleStepSettlesOnThePorts : Prop :=
  ∀ s : State, s.jobs = [] → step s = .next { s with outIdx := classify s.onPorts, settled := true }

/-- The step runs the decoded instruction: for the ports as they stand, for a request at the head of the jobs, for a word of
the opcode table placed by `withFetchWord`, and for the request of a run of the driver. 10_state.md R33 says that the answer is
`Classify` of the request and 42_host_driver.md R156 that a successful run makes one request; the wiring is the model's: a whole
request is one step (DESIGN CHOICE, log entry 1), the jobs are a list of the environment and `withFetchWord` puts a request at
its head (DESIGN CHOICE, log entry 3), a run is one step and logs its request under the caller `driver` (DESIGN CHOICE, log
entry 8). -/
def Obligations.StepRunsTheDecodedInstruction : Prop :=
  (∀ s : State, s.jobs = [] → step s = exec (decode s.onPorts) s) ∧
  (∀ (s : State) (c : Caller) (r : Request) (rest : List Job), s.jobs = .request c r :: rest →
    step s = andThen (exec (decode r) (({ s with jobs := rest } : State).present r)) fun t => .next (t.sample c)) ∧
  (∀ (s : State) (w : Nat), ∃ i, decodeTableWord 32 w = some i ∧
    step (s.withFetchWord 32 w) =
      andThen (exec i (s.present (armRequest (BitVec.ofNat 32 w)))) fun t => .next (t.sample (.other 0))) ∧
  (∀ (s : State) (w : Nat), ∃ i, decodeTableWord 16 w = some i ∧
    step (s.withFetchWord 16 w) =
      andThen (exec i (s.present (thumbRequest (BitVec.ofNat 16 w)))) fun t => .next (t.sample (.other 0))) ∧
  (∀ (s : State) (argv : List String) (r : Request) (rest : List Job), s.jobs = .run argv :: rest →
    driverPlan argv = .ask r →
    step s = andThen (andThen (exec (decode r) (({ s with jobs := rest } : State).present r))
      fun t => .next (t.sample .driver)) (driverPrint argv)) ∧
  (∀ r : Request, (decode r).wellFormed = true)

/-! ## Encoding -/

/-- 30_encoding.md R55, R61: decoding what an instruction is presented as gives the instruction back, all its bits included. -/
def Obligations.DecodeOfEncodeIsTheInstruction : Prop :=
  ∀ i : Instr, i.wellFormed = true → decode (encode i) = i

/-- 30_encoding.md R55 and 10_state.md R29: presenting what a request is read as gives the request back, but for
`in_word[31:16]` of a Thumb request, which are zero afterwards. -/
def Obligations.EncodeOfDecodeIsTheRequest : Prop :=
  ∀ r : Request,
    (r.inIsa = 0#1 → encode (decode r) = r) ∧
    (r.inIsa = 1#1 → encode (decode r) = ⟨1#1, r.inWord &&& 0x0000FFFF#32⟩)

/-- Words written out bit by bit from the bit strings of 30_encoding.md R57 and R58, one for each kind of row. -/
def Obligations.WordsWrittenFromTheBitStringsDecode : Prop :=
  decode ⟨0#1, 0b11100001001011111111111100011110#32⟩ = .armBranchExchange 0xE12FFF1E#32 ∧
  decode ⟨0#1, 0b11101001001011010100000000000000#32⟩ = .armBlockDataTransfer 0xE92D4000#32 ∧
  decode ⟨0#1, 0b11100000000000010000000110010000#32⟩ = .armMultiply 0xE0010190#32 ∧
  decode ⟨0#1, 0b11100001110000010010000010110010#32⟩ = .armHalfwordTransferImm 0xE1C120B2#32 ∧
  decode ⟨0#1, 0b11100011101000000000000000000101#32⟩ = .armDataProcessing 0xE3A00005#32 ∧
  decode ⟨1#1, 0b00000000000000001101111100000000#32⟩ = .thumbSoftwareInterrupt 0xDF00#16 ∧
  decode ⟨1#1, 0b00000000000000001011010100000000#32⟩ = .thumbPushPop 0xB500#16 ∧
  decode ⟨1#1, 0b00000000000000000101111010001000#32⟩ = .thumbLoadStoreSignExtended 0x5E88#16 ∧
  decode ⟨1#1, 0b00000000000000000001100001000000#32⟩ = .thumbAddSubtract 0x1840#16

/-- 00_scope.md R12: what `Match` and `FirstMatch` compute, for a table of any length and width, and how many tests that
takes. That the fallback is numbered 0 is decision D4. -/
def Obligations.FirstMatchFindsTheLowestMatchingRow : Prop :=
  ∀ (n : Nat) (table : List (Row n)) (w : BitVec n),
    (∀ r : Row n, r.hit w = true ↔ w &&& r.mask = r.pattern) ∧
    (firstMatch table w = 0 ↔ ∀ r ∈ table, r.hit w = false) ∧
    (∀ k, firstMatch table w = k + 1 ↔
      (∃ r, table[k]? = some r ∧ r.hit w = true) ∧ ∀ j, j < k → ∀ r, table[j]? = some r → r.hit w = false) ∧
    testsMade table w ≤ table.length

/-- 30_encoding.md R56, for the 32 rows of both tables: no pattern bit lies outside the mask; the row's own pattern matches
it; the tested bits alone decide a match. -/
def Obligations.RowsTestTheBitsOfTheirMask : Prop :=
  (∀ r ∈ armTable, r.pattern &&& ~~~r.mask = 0#32 ∧ r.hit r.pattern = true ∧
    ∀ w, r.hit w = true ↔ ∀ i, r.mask.getLsbD i = true → w.getLsbD i = r.pattern.getLsbD i) ∧
  (∀ r ∈ thumbTable, r.pattern &&& ~~~r.mask = 0#16 ∧ r.hit r.pattern = true ∧
    ∀ w, r.hit w = true ↔ ∀ i, r.mask.getLsbD i = true → w.getLsbD i = r.pattern.getLsbD i)

/-- 00_scope.md R14 over the strings of 30_encoding.md R57 and R58: bit `i` of a mask and of a pattern is the character at
position `W-1-i` of the row's bit string. -/
def Obligations.BitStringsSpellMasksAndPatterns : Prop :=
  armBitStrings.length = armTable.length ∧ thumbBitStrings.length = thumbTable.length ∧
  (∀ p ∈ armBitStrings.zip armTable, p.1.toList.length = 32 ∧ ∀ i, i < 32 →
    p.2.mask.getLsbD i = (p.1.toList[31 - i]? != some 'x') ∧
    p.2.pattern.getLsbD i = (p.1.toList[31 - i]? == some '1')) ∧
  (∀ p ∈ thumbBitStrings.zip thumbTable, p.1.toList.length = 16 ∧ ∀ i, i < 16 →
    p.2.mask.getLsbD i = (p.1.toList[15 - i]? != some 'x') ∧
    p.2.pattern.getLsbD i = (p.1.toList[15 - i]? == some '1'))

/-- 30_encoding.md R57, the field form of the 13 ARM rows. -/
def Obligations.ArmRowsFixTheFieldsListed : Prop :=
  ∀ w : ArmWord,
    armTable.map (fun r => r.hit w) = [
      decide (bits w 27 4 = 0x012FFF1#24),
      decide (bits w 27 25 = 0b100#3),
      decide (bits w 27 25 = 0b101#3),
      decide (bits w 27 24 = 0b1111#4),
      decide (bits w 27 25 = 0b011#3 ∧ bits w 4 4 = 1#1),
      decide (bits w 27 26 = 0b01#2),
      decide (bits w 27 23 = 0b00010#5 ∧ bits w 11 4 = 0x09#8),
      decide (bits w 27 24 = 0b0000#4 ∧ bits w 7 4 = 0b1001#4),
      decide (bits w 27 25 = 0b000#3 ∧ bits w 22 22 = 0#1 ∧ bits w 11 8 = 0b0000#4 ∧ bits w 7 7 = 1#1 ∧
        bits w 4 4 = 1#1),
      decide (bits w 27 25 = 0b000#3 ∧ bits w 22 22 = 1#1 ∧ bits w 7 7 = 1#1 ∧ bits w 4 4 = 1#1),
      decide (bits w 27 23 = 0b00010#5 ∧ bits w 21 16 = 0b001111#6),
      decide (bits w 27 26 = 0b00#2 ∧ bits w 24 24 = 1#1 ∧ bits w 23 23 = 0#1 ∧ bits w 21 21 = 1#1 ∧
        bits w 20 20 = 0#1 ∧ bits w 15 12 = 0b1111#4),
      decide (bits w 27 26 = 0b00#2)]

/-- 00_scope.md R8, 70_reset_and_hazards.md R195: the tables have the sizes of the parameters, and the codes are as many. -/
def Obligations.TablesHaveTheParametersSizes : Prop :=
  armTable.length = Config.armRules ∧ thumbTable.length = Config.thumbRules ∧
    armCodes.length = Config.armCategories ∧ thumbCodes.length = Config.thumbCategories ∧
    Config.armCategories = Config.armRules + 1 ∧ Config.thumbCategories = Config.thumbRules + 1

/-- 30_encoding.md R62: two rows can match one word exactly when their patterns agree on the bits both test; the pairs of ARM
rows for which that is so; and the two corners the rule names. -/
def Obligations.ArmRowsOverlapExactlyAsListed : Prop :=
  (∀ a ∈ armTable, ∀ b ∈ armTable,
    (∃ w, a.hit w = true ∧ b.hit w = true) ↔ (a.pattern ^^^ b.pattern) &&& a.mask &&& b.mask = 0#32) ∧
  (∀ i j, 1 ≤ i → i < j → j ≤ 13 →
    ((∃ a b w, armTable[i - 1]? = some a ∧ armTable[j - 1]? = some b ∧ a.hit w = true ∧ b.hit w = true) ↔
      (i, j) ∈ [(1, 12), (1, 13), (5, 6), (7, 9), (7, 10), (7, 11), (7, 12), (7, 13), (8, 9), (8, 10), (8, 13),
        (9, 11), (9, 12), (9, 13), (10, 11), (10, 12), (10, 13), (11, 13), (12, 13)])) ∧
  rowNumber (armRequest 0x00000090#32) = 8 ∧ rowNumber (armRequest 0x00400090#32) = 8 ∧
  (∀ w, rowNumber (armRequest w) = 1 →
    ∀ r, armTable[11]? = some r ∨ armTable[12]? = some r → r.hit w = true)

/-- 30_encoding.md R63: the only overlapping Thumb pairs are (1,3) and (18,19), and what that makes of their words. -/
def Obligations.ThumbRowsOverlapExactlyAsListed : Prop :=
  (∀ i j, 1 ≤ i → i < j → j ≤ 19 →
    ((∃ a b w, thumbTable[i - 1]? = some a ∧ thumbTable[j - 1]? = some b ∧ a.hit w = true ∧ b.hit w = true) ↔
      (i, j) ∈ [(1, 3), (18, 19)])) ∧
  (∀ w, bits w 15 8 = 0xDF#8 → decode (thumbRequest w) = .thumbSoftwareInterrupt w) ∧
  (∀ w, bits w 15 11 = 0b00011#5 → decode (thumbRequest w) = .thumbAddSubtract w)

/-- 40_arm_classifier.md R116 and 41_thumb_classifier.md R142: testing the rows of a table in any order that keeps the
overlapping pairs in theirs (for Thumb: row 1 before row 3 and row 18 before row 19) computes the same function. -/
def Obligations.OrdersThatKeepOverlappingPairsAgree : Prop :=
  (∀ l : List (Row 32 × Nat), l.Perm (armTable.zipIdx 1) →
    (∀ a ∈ armTable.zipIdx 1, ∀ b ∈ armTable.zipIdx 1, a.2 < b.2 →
      (a.1.pattern ^^^ b.1.pattern) &&& a.1.mask &&& b.1.mask = 0#32 → [a, b].Sublist l) →
    ∀ w, (((l.find? fun p => p.1.hit w).map (·.2)).getD 0) = armClassify w) ∧
  (∀ l : List (Row 16 × Nat), l.Perm (thumbTable.zipIdx 1) →
    [(⟨0xFF00#16, 0xDF00#16⟩, 1), (⟨0xF000#16, 0xD000#16⟩, 3)].Sublist l →
    [(⟨0xF800#16, 0x1800#16⟩, 18), (⟨0xE000#16, 0x0000#16⟩, 19)].Sublist l →
    ∀ w, (((l.find? fun p => p.1.hit w).map (·.2)).getD 0) = thumbClassify w)

/-! ## The whole function -/

/-- 40_arm_classifier.md R100 and 41_thumb_classifier.md R120: whatever the state, an ARM request is answered
`ArmClassify(in_word[31:0])` and a Thumb request `ThumbClassify(in_word[15:0])`, and this is the whole next state: the ports
hold the request and the result, the caller has its response, nothing else has changed. -/
def Obligations.ARequestIsAnsweredByTheSequentialClassifier : Prop :=
  (∀ (s : State) (c : Caller) (w : ArmWord), step (s.asked c ⟨0#1, w⟩) = .next { s with
    inIsa := 0#1, inWord := w, outIdx := BitVec.ofNat 5 (armClassify w), settled := true,
    responses := s.responses ++ [⟨c, ⟨0#1, w⟩, BitVec.ofNat 5 (armClassify w), true⟩] }) ∧
  (∀ (s : State) (c : Caller) (w : ArmWord), step (s.asked c ⟨1#1, w⟩) = .next { s with
    inIsa := 1#1, inWord := w, outIdx := BitVec.ofNat 5 (thumbClassify (w.setWidth 16)), settled := true,
    responses := s.responses ++ [⟨c, ⟨1#1, w⟩, BitVec.ofNat 5 (thumbClassify (w.setWidth 16)), true⟩] })

/-- 10_state.md R31 and R32: stage 1 gives one match bit per row of the selected table, stage 2 the number of the lowest set
bit or 0, and the two together give what the block answers. -/
def Obligations.MatchBitsAndPriorityEncoderGiveTheAnswer : Prop :=
  (∀ w : ArmWord, matchBits ⟨0#1, w⟩ = armTable.map fun r => (w &&& r.mask) == r.pattern) ∧
  (∀ w : ArmWord, matchBits ⟨1#1, w⟩ = thumbTable.map fun r => (w.setWidth 16 &&& r.mask) == r.pattern) ∧
  (∀ m : List Bool, (priorityEncode m = 0 ↔ ∀ b ∈ m, b = false) ∧
    ∀ k, priorityEncode m = k + 1 ↔ m[k]? = some true ∧ ∀ j, j < k → m[j]? ≠ some true) ∧
  (∀ (s : State) (c : Caller) (r : Request), ∃ t, step (s.asked c r) = .next t ∧ t.outIdx = circuitIdx r)

/-- 10_state.md R33: a sequence of stable requests is answered by the list of `Classify` applied to each, in their order,
from every state. -/
def Obligations.ASequenceOfRequestsIsAnsweredByClassify : Prop :=
  (∀ w : ArmWord, classify ⟨0#1, w⟩ = BitVec.ofNat 5 (armClassify w) ∧
    classify ⟨1#1, w⟩ = BitVec.ofNat 5 (thumbClassify (w.setWidth 16))) ∧
  ∀ (s : State) (qs : List (Caller × Request)),
    ∃ t, core.run qs.length { s with jobs := qs.map fun q => .request q.1 q.2 } = .next t ∧
      t.jobs = [] ∧ t.responses = s.responses ++ qs.map answer

/-- 20_memory.md R46: however the requests of several callers are interleaved, each caller has the responses it would have
running its requests alone, from any other state. -/
def Obligations.EveryInterleavingGivesEachCallerItsOwnResponses : Prop :=
  ∀ (s s' : State) (qs own : List (Caller × Request)) (c : Caller), qs.filter (fun q => q.1 = c) = own →
    ∃ t t', core.run qs.length { s with jobs := qs.map fun q => .request q.1 q.2, responses := [] } = .next t ∧
      core.run own.length { s' with jobs := own.map fun q => .request q.1 q.2, responses := [] } = .next t' ∧
      t.responses.filter (fun r => r.caller = c) = t'.responses

/-- 10_state.md R26: the same inputs give the same output, whatever happened before, whoever asks and whatever is asked
next. -/
def Obligations.SameInputsSameOutputWhateverTheHistory : Prop :=
  ∀ (s s' : State) (c c' : Caller) (r : Request), ∃ t t',
    step (s.asked c r) = .next t ∧ step (s'.asked c' r) = .next t' ∧ t.outIdx = t'.outIdx

/-- 30_encoding.md R59: no ARM mask reaches bits 31:28 or 3:0, the masks together are `0x0FFFFFF0`, and two ARM requests that
agree on bits 27:4 are answered alike. -/
def Obligations.ArmAnswersDependOnBits27To4Only : Prop :=
  armTable.foldl (fun m r => m ||| r.mask) 0#32 = 0x0FFFFFF0#32 ∧
  ∀ (s s' : State) (c c' : Caller) (w w' : ArmWord), bits w 27 4 = bits w' 27 4 →
    ∃ t t', step (s.asked c ⟨0#1, w⟩) = .next t ∧ step (s'.asked c' ⟨0#1, w'⟩) = .next t' ∧ t.outIdx = t'.outIdx

/-- 41_thumb_classifier.md R143: all Thumb masks lie within bits 15:8, a Thumb request is answered as its low 16 bits are,
and the rule's two examples. -/
def Obligations.ThumbAnswersIgnoreTheUpperHalfword : Prop :=
  (∀ r ∈ thumbTable, r.mask &&& 0x00FF#16 = 0#16) ∧
  (∀ (s s' : State) (c c' : Caller) (w : ArmWord), ∃ t t', step (s.asked c ⟨1#1, w⟩) = .next t ∧
    step (s'.asked c' ⟨1#1, w &&& 0x0000FFFF#32⟩) = .next t' ∧ t.outIdx = t'.outIdx) ∧
  (∀ (s : State) (c : Caller), ∃ t, step (s.asked c ⟨1#1, 0xFFFF0000#32⟩) = .next t ∧ t.outIdx = 19#5) ∧
  (∀ (s : State) (c : Caller), ∃ t, step (s.asked c ⟨1#1, 0x0001DF00#32⟩) = .next t ∧ t.outIdx = 1#5)

/-- 30_encoding.md R60: the Thumb masks together are `0xFF00`, and every Thumb answer is the entry of the 256-entry table for
bits 15:8. -/
def Obligations.ThumbAnswersAreTheHighByteTable : Prop :=
  thumbTable.foldl (fun m r => m ||| r.mask) 0#16 = 0xFF00#16 ∧
  ∀ (s : State) (c : Caller) (w : ArmWord), ∃ t, step (s.asked c ⟨1#1, w⟩) = .next t ∧
    t.outIdx = BitVec.ofNat 5 (highByteEntry (bits w 15 8))

/-- The ARM instructions a word could be read as, one for each row and the fallback. -/
def Sys2Proof.armReadings (w : ArmWord) : List Instr := (List.range 14).map fun k => armInstr k w

/-- The Thumb instructions a word could be read as, one for each row and the fallback. -/
def Sys2Proof.thumbReadings (w : ThumbWord) : List Instr := (List.range 20).map fun k => thumbInstr k w

/-- 40_arm_classifier.md R115 and 41_thumb_classifier.md R141: for every word exactly one of the 14 ARM rules and exactly one
of the 20 Thumb rules fires, the answer is in 0 to 13 or 0 to 19, and at most 13 or 19 tests are made. -/
def Obligations.EveryWordGetsExactlyOneCategory : Prop :=
  (∀ w : ArmWord, ((armReadings w).filter fun i => i.wellFormed).length = 1 ∧ testsMade armTable w ≤ 13 ∧
    ∀ (s : State) (c : Caller), ∃ t, step (s.asked c ⟨0#1, w⟩) = .next t ∧ t.outIdx.toNat ≤ 13 ∧
      t.responses = s.responses ++ [⟨c, ⟨0#1, w⟩, t.outIdx, true⟩]) ∧
  (∀ w : ThumbWord, ((thumbReadings w).filter fun i => i.wellFormed).length = 1 ∧ testsMade thumbTable w ≤ 19 ∧
    ∀ (s : State) (c : Caller), ∃ t, step (s.asked c (thumbRequest w)) = .next t ∧ t.outIdx.toNat ≤ 19 ∧
      t.responses = s.responses ++ [⟨c, thumbRequest w, t.outIdx, true⟩])

/-- 10_state.md R30, 60_exceptions.md R174: a value `k` of 1 or more on `out_idx` says that row `k` of the selected table is
the first that matches, and 0 that none does. The numbering is decision D4. -/
def Obligations.OutIdxNamesTheFirstMatchingRow : Prop :=
  (∀ (s : State) (c : Caller) (w : ArmWord), ∃ t, step (s.asked c ⟨0#1, w⟩) = .next t ∧
    (t.outIdx = 0#5 ↔ ∀ r ∈ armTable, w &&& r.mask ≠ r.pattern) ∧
    ∀ k, k < 13 → (t.outIdx.toNat = k + 1 ↔ (∃ r, armTable[k]? = some r ∧ w &&& r.mask = r.pattern) ∧
      ∀ j, j < k → ∀ r, armTable[j]? = some r → w &&& r.mask ≠ r.pattern)) ∧
  (∀ (s : State) (c : Caller) (w : ThumbWord), ∃ t, step (s.asked c (thumbRequest w)) = .next t ∧
    (t.outIdx = 0#5 ↔ ∀ r ∈ thumbTable, w &&& r.mask ≠ r.pattern) ∧
    ∀ k, k < 19 → (t.outIdx.toNat = k + 1 ↔ (∃ r, thumbTable[k]? = some r ∧ w &&& r.mask = r.pattern) ∧
      ∀ j, j < k → ∀ r, thumbTable[j]? = some r → w &&& r.mask ≠ r.pattern))

/-- 30_encoding.md R64, 60_exceptions.md R171: an ARM request is answered 0 exactly when `w[27:24]` is 1100, 1101 or 1110, and
that is a next state like any other. -/
def Obligations.ArmIllegalIsExactlyTheThreeNibbles : Prop :=
  ∀ (s : State) (c : Caller) (w : ArmWord), ∃ t, step (s.asked c ⟨0#1, w⟩) = .next t ∧
    (t.outIdx = 0#5 ↔ bits w 27 24 = 0b1100#4 ∨ bits w 27 24 = 0b1101#4 ∨ bits w 27 24 = 0b1110#4) ∧
    (t.outIdx = 0#5 ↔ bits w 27 25 = 0b110#3 ∨ bits w 27 24 = 0b1110#4)

/-- 30_encoding.md R65, 60_exceptions.md R171: a Thumb request is answered 0 exactly when its high byte is one of 19 values,
or, what is the same, when it matches one of six patterns. -/
def Obligations.ThumbIllegalIsExactlyTheNineteenHighBytes : Prop :=
  ∀ (s : State) (c : Caller) (w : ArmWord), ∃ t, step (s.asked c ⟨1#1, w⟩) = .next t ∧
    (t.outIdx = 0#5 ↔ bits w 15 8 ∈ [0xB1#8, 0xB2#8, 0xB3#8, 0xB6#8, 0xB7#8, 0xB8#8, 0xB9#8, 0xBA#8, 0xBB#8, 0xBE#8,
      0xBF#8, 0xE8#8, 0xE9#8, 0xEA#8, 0xEB#8, 0xEC#8, 0xED#8, 0xEE#8, 0xEF#8]) ∧
    (t.outIdx = 0#5 ↔ bits w 15 10 = 0b101110#6 ∨ bits w 15 9 = 0b1011111#7 ∨ bits w 15 9 = 0b1011011#7 ∨
      bits w 15 9 = 0b1011001#7 ∨ bits w 15 8 = 0b10110001#8 ∨ bits w 15 11 = 0b11101#5)

/-- 30_encoding.md R66, R67, R68 (the numbering, the identifiers and the never-output codes are decisions D4, D5 and D26, the
spelling of the labels is D11): every answer is the code of the decoded instruction and has a label and an identifier; each
code's number, identifier and label, for every constructor; the codes 14 to 31 (ARM) and 20 to 31 (Thumb) have none, so they are
never output, and a driver that met one would stop with the fault of 93_implementation_defined.md I1 (that the driver's label
lookup raises it is the model's DESIGN CHOICE, log entry 9). -/
def Obligations.CodesHaveLabelsAndTheRestAreNeverOutput : Prop :=
  (∀ (s : State) (c : Caller) (r : Request), ∃ t l d, step (s.asked c r) = .next t ∧ t.outIdx = (decode r).code ∧
    label? (selectIsa r.inIsa) t.outIdx = some l ∧ identifier? (selectIsa r.inIsa) t.outIdx = some d) ∧
  (∀ w : ArmWord,
    ([
      .armIllegal w,
      .armBranchExchange w,
      .armBlockDataTransfer w,
      .armBranch w,
      .armSoftwareInterrupt w,
      .armUndefined w,
      .armSingleDataTransfer w,
      .armSingleDataSwap w,
      .armMultiply w,
      .armHalfwordTransferReg w,
      .armHalfwordTransferImm w,
      .armPsrTransferRead w,
      .armPsrTransferWrite w,
      .armDataProcessing w] : List Instr).map (fun i => (i.code, identifier? .arm i.code, label? .arm i.code)) = [
      (0#5, some "ARM_ILLEGAL", some "Illegal instruction"),
      (1#5, some "ARM_BRANCH_EXCHANGE", some "Branch and exchange"),
      (2#5, some "ARM_BLOCK_DATA_TRANSFER", some "Block data transfer"),
      (3#5, some "ARM_BRANCH", some "Branch / branch with link"),
      (4#5, some "ARM_SOFTWARE_INTERRUPT", some "Software interrupt"),
      (5#5, some "ARM_UNDEFINED", some "Undefined"),
      (6#5, some "ARM_SINGLE_DATA_TRANSFER", some "Single data transfer"),
      (7#5, some "ARM_SINGLE_DATA_SWAP", some "Single data swap"),
      (8#5, some "ARM_MULTIPLY", some "Multiply / multiply long"),
      (9#5, some "ARM_HALFWORD_TRANSFER_REG", some "Halfword transfer (register offset)"),
      (10#5, some "ARM_HALFWORD_TRANSFER_IMM", some "Halfword transfer (immediate offset)"),
      (11#5, some "ARM_PSR_TRANSFER_READ", some "PSR transfer (read)"),
      (12#5, some "ARM_PSR_TRANSFER_WRITE", some "PSR transfer (write)"),
      (13#5, some "ARM_DATA_PROCESSING", some "Data processing")]) ∧
  (∀ w : ThumbWord,
    ([
      .thumbIllegal w,
      .thumbSoftwareInterrupt w,
      .thumbUnconditionalBranch w,
      .thumbConditionalBranch w,
      .thumbMultipleLoadStore w,
      .thumbLongBranchWithLink w,
      .thumbAddOffsetToSp w,
      .thumbPushPop w,
      .thumbLoadStoreHalfword w,
      .thumbSpRelativeLoadStore w,
      .thumbLoadAddress w,
      .thumbLoadStoreImmOffset w,
      .thumbLoadStoreRegOffset w,
      .thumbLoadStoreSignExtended w,
      .thumbPcRelativeLoad w,
      .thumbHiRegOpBx w,
      .thumbAluOperation w,
      .thumbMovCmpAddSubImm w,
      .thumbAddSubtract w,
      .thumbMoveShiftedRegister w] : List Instr).map (fun i => (i.code, identifier? .thumb i.code, label? .thumb i.code)) = [
      (0#5, some "THUMB_ILLEGAL", some "Illegal instruction"),
      (1#5, some "THUMB_SOFTWARE_INTERRUPT", some "Software interrupt"),
      (2#5, some "THUMB_UNCONDITIONAL_BRANCH", some "Unconditional branch"),
      (3#5, some "THUMB_CONDITIONAL_BRANCH", some "Conditional branch"),
      (4#5, some "THUMB_MULTIPLE_LOAD_STORE", some "Multiple load/store"),
      (5#5, some "THUMB_LONG_BRANCH_WITH_LINK", some "Long branch with link"),
      (6#5, some "THUMB_ADD_OFFSET_TO_SP", some "Add offset to stack pointer"),
      (7#5, some "THUMB_PUSH_POP", some "Push/pop registers"),
      (8#5, some "THUMB_LOAD_STORE_HALFWORD", some "Load/store halfword"),
      (9#5, some "THUMB_SP_RELATIVE_LOAD_STORE", some "Stack-pointer-relative load/store"),
      (10#5, some "THUMB_LOAD_ADDRESS", some "Load address"),
      (11#5, some "THUMB_LOAD_STORE_IMM_OFFSET", some "Load/store with immediate offset"),
      (12#5, some "THUMB_LOAD_STORE_REG_OFFSET", some "Load/store with register offset"),
      (13#5, some "THUMB_LOAD_STORE_SIGN_EXTENDED", some "Load/store sign-extended byte/halfword"),
      (14#5, some "THUMB_PC_RELATIVE_LOAD", some "Program-counter-relative load"),
      (15#5, some "THUMB_HI_REG_OP_BX", some "Hi-register operation / branch exchange"),
      (16#5, some "THUMB_ALU_OPERATION", some "ALU operation"),
      (17#5, some "THUMB_MOV_CMP_ADD_SUB_IMM", some "Move/compare/add/subtract immediate"),
      (18#5, some "THUMB_ADD_SUBTRACT", some "Add/subtract"),
      (19#5, some "THUMB_MOVE_SHIFTED_REGISTER", some "Move shifted register")]) ∧
  (∀ k : Idx, (label? .arm k = none ↔ 14 ≤ k.toNat) ∧ (label? .thumb k = none ↔ 20 ≤ k.toNat) ∧
    (identifier? .arm k = none ↔ 14 ≤ k.toNat) ∧ (identifier? .thumb k = none ↔ 20 ≤ k.toNat)) ∧
  (∀ (s : State) (argv : List String), s.inIsa = 0#1 → 14 ≤ s.outIdx.toNat →
    driverPrint argv s = .fault .codeNeverOutput) ∧
  (∀ (s : State) (argv : List String), s.inIsa = 1#1 → 20 ≤ s.outIdx.toNat →
    driverPrint argv s = .fault .codeNeverOutput)

/-- 60_exceptions.md R170: the block raises no exception, for any instruction and any input: an instruction always answers a
next state, no step faults, and a step refuses only a run of the driver. -/
def Obligations.NothingRaisesAnException : Prop :=
  (∀ (i : Instr) (s : State), ∃ t, exec i s = .next t) ∧
  (∀ (s : State) (x : Fault), step s ≠ .fault x) ∧
  (∀ (s : State) (x : Refusal), step s = .refused x → ∃ argv rest, s.jobs = .run argv :: rest)

/-- 70_reset_and_hazards.md R193: a caller that does not hold the inputs stable sees a free value, the constant applied to the
counter, which the look advances (the form of an open value and its counter are the model's, DESIGN CHOICE, log entry 4), and once the inputs are left alone the output is `Classify` of them. -/
def Obligations.AnUnstableLookIsFreeAndTheOutputSettlesLater : Prop :=
  ∀ (s : State) (c : Caller) (r : Request) (rest : List Job), s.jobs = .unstable c r :: rest →
    ∃ t, step s = .next t ∧ t.settled = false ∧ t.onPorts = r ∧ t.outIdx = Config.unsettledIdx s.freeCount ∧
      t.responses = s.responses ++ [⟨c, r, Config.unsettledIdx s.freeCount, false⟩] ∧
      t.freeCount = s.freeCount + 1 ∧ t.runs = s.runs ∧ t.jobs = rest ∧
      (rest = [] → step t = .next { t with outIdx := classify r, settled := true })

/-! ## The rows, in the field forms of 40_arm_classifier.md and 41_thumb_classifier.md

Each clause is for every word and every state: what the row's rule does when the word lies in the effective set, and that it
does nothing otherwise (a rule has no else branch: the model's reading, log entry 5). The next state is written out whole, so
each clause is the row's frame as well. -/

/-- What 00_scope.md R2 and 10_state.md R20 to R25 leave for an instruction to change: every constructor of Instr leaves all
but `out_idx` as it was. -/
def Obligations.InstructionsChangeNothingButOutIdx : Prop :=
  ∀ (i : Instr) (s t : State), exec i s = .next t →
    t = { s with outIdx := t.outIdx, settled := t.settled } ∧
    (i.wellFormed = true → t.settled = true) ∧ (i.wellFormed = false → t = s)

/-- R101 Branch and exchange, R103 Branch / branch with link. -/
def Obligations.ArmBranchRowsDriveTheirNumbers : Prop :=
  (∀ (w : ArmWord) (s : State), exec (.armBranchExchange w) s =
    .next (if bits w 27 4 = 0x012FFF1#24 then { s with outIdx := 1#5, settled := true } else s)) ∧
  (∀ (w : ArmWord) (s : State), exec (.armBranch w) s =
    .next (if bits w 27 25 = 0b101#3 then { s with outIdx := 3#5, settled := true } else s))

/-- R102 Block data transfer, R106 Single data transfer. -/
def Obligations.ArmTransferRowsDriveTheirNumbers : Prop :=
  (∀ (w : ArmWord) (s : State), exec (.armBlockDataTransfer w) s =
    .next (if bits w 27 25 = 0b100#3 then { s with outIdx := 2#5, settled := true } else s)) ∧
  (∀ (w : ArmWord) (s : State), exec (.armSingleDataTransfer w) s =
    .next (if bits w 27 25 = 0b010#3 ∨ (bits w 27 25 = 0b011#3 ∧ bits w 4 4 = 0#1)
      then { s with outIdx := 6#5, settled := true } else s))

/-- R104 Software interrupt, R105 Undefined: labels only, no trap (60_exceptions.md R172). -/
def Obligations.ArmTrapNamedRowsOnlyDriveTheirNumbers : Prop :=
  (∀ (w : ArmWord) (s : State), exec (.armSoftwareInterrupt w) s =
    .next (if bits w 27 24 = 0b1111#4 then { s with outIdx := 4#5, settled := true } else s)) ∧
  (∀ (w : ArmWord) (s : State), exec (.armUndefined w) s =
    .next (if bits w 27 25 = 0b011#3 ∧ bits w 4 4 = 1#1 then { s with outIdx := 5#5, settled := true } else s))

/-- R107 Single data swap, R108 Multiply / multiply long: no earlier row takes any of their words. -/
def Obligations.ArmSwapAndMultiplyRowsDriveTheirNumbers : Prop :=
  (∀ (w : ArmWord) (s : State), exec (.armSingleDataSwap w) s =
    .next (if bits w 27 23 = 0b00010#5 ∧ bits w 11 4 = 0x09#8 then { s with outIdx := 7#5, settled := true } else s)) ∧
  (∀ (w : ArmWord) (s : State), exec (.armMultiply w) s =
    .next (if bits w 27 24 = 0b0000#4 ∧ bits w 7 4 = 0b1001#4 then { s with outIdx := 8#5, settled := true } else s))

/-- R109 and R110, Halfword transfer: what rows 7 and 8 leave of rows 9 and 10. -/
def Obligations.ArmHalfwordRowsDriveTheirNumbers : Prop :=
  (∀ (w : ArmWord) (s : State), exec (.armHalfwordTransferReg w) s =
    .next (if bits w 27 25 = 0b000#3 ∧ bits w 22 22 = 0#1 ∧ bits w 11 8 = 0b0000#4 ∧ bits w 7 7 = 1#1 ∧
        bits w 4 4 = 1#1 ∧ (bits w 6 5 ≠ 0b00#2 ∨ bits w 24 23 = 0b11#2)
      then { s with outIdx := 9#5, settled := true } else s)) ∧
  (∀ (w : ArmWord) (s : State), exec (.armHalfwordTransferImm w) s =
    .next (if bits w 27 25 = 0b000#3 ∧ bits w 22 22 = 1#1 ∧ bits w 7 7 = 1#1 ∧ bits w 4 4 = 1#1 ∧
        ¬(bits w 24 24 = 0#1 ∧ bits w 6 5 = 0b00#2) ∧
        ¬(bits w 24 23 = 0b10#2 ∧ bits w 11 8 = 0b0000#4 ∧ bits w 6 5 = 0b00#2)
      then { s with outIdx := 10#5, settled := true } else s))

/-- R111 and R112, PSR transfer: what rows 1, 7, 9 and 10 leave of rows 11 and 12. -/
def Obligations.ArmPsrRowsDriveTheirNumbers : Prop :=
  (∀ (w : ArmWord) (s : State), exec (.armPsrTransferRead w) s =
    .next (if bits w 27 23 = 0b00010#5 ∧ bits w 21 16 = 0b001111#6 ∧
        ¬(bits w 7 7 = 1#1 ∧ bits w 4 4 = 1#1 ∧ (bits w 22 22 = 1#1 ∨ bits w 11 8 = 0b0000#4))
      then { s with outIdx := 11#5, settled := true } else s)) ∧
  (∀ (w : ArmWord) (s : State), exec (.armPsrTransferWrite w) s =
    .next (if bits w 27 26 = 0b00#2 ∧ bits w 24 23 = 0b10#2 ∧ bits w 21 20 = 0b10#2 ∧ bits w 15 12 = 0b1111#4 ∧
        bits w 27 4 ≠ 0x012FFF1#24 ∧
        ¬(bits w 25 25 = 0#1 ∧ bits w 7 7 = 1#1 ∧ bits w 4 4 = 1#1 ∧
          (bits w 22 22 = 1#1 ∨ bits w 11 8 = 0b0000#4))
      then { s with outIdx := 12#5, settled := true } else s))

/-- R113 Data processing, the broad pattern tried last: every word with `w[27:26] = 00` that rows 1 and 7 to 12 do not match;
and R114, the fallback: the three nibbles that no row matches. -/
def Obligations.ArmDataProcessingAndFallbackDriveTheirNumbers : Prop :=
  (∀ (w : ArmWord) (s : State), exec (.armDataProcessing w) s =
    .next (if bits w 27 26 = 0b00#2 ∧
        ¬(bits w 27 4 = 0x012FFF1#24) ∧
        ¬(bits w 27 23 = 0b00010#5 ∧ bits w 11 4 = 0x09#8) ∧
        ¬(bits w 27 24 = 0b0000#4 ∧ bits w 7 4 = 0b1001#4) ∧
        ¬(bits w 25 25 = 0#1 ∧ bits w 7 7 = 1#1 ∧ bits w 4 4 = 1#1 ∧
          (bits w 22 22 = 1#1 ∨ bits w 11 8 = 0b0000#4)) ∧
        ¬(bits w 27 23 = 0b00010#5 ∧ bits w 21 16 = 0b001111#6) ∧
        ¬(bits w 24 23 = 0b10#2 ∧ bits w 21 20 = 0b10#2 ∧ bits w 15 12 = 0b1111#4)
      then { s with outIdx := 13#5, settled := true } else s)) ∧
  (∀ (w : ArmWord) (s : State), exec (.armIllegal w) s =
    .next (if bits w 27 24 = 0b1100#4 ∨ bits w 27 24 = 0b1101#4 ∨ bits w 27 24 = 0b1110#4
      then { s with outIdx := 0#5, settled := true } else s))

/-- R121 Software interrupt (a label only, 60_exceptions.md R172), R122 Unconditional branch, R123 Conditional branch, R125
Long branch with link (either half on its own, 30_encoding.md R71), R135 Hi-register operation / branch exchange. -/
def Obligations.ThumbControlRowsDriveTheirNumbers : Prop :=
  (∀ (w : ThumbWord) (s : State), exec (.thumbSoftwareInterrupt w) s =
    .next (if bits w 15 8 = 0xDF#8 then { s with outIdx := 1#5, settled := true } else s)) ∧
  (∀ (w : ThumbWord) (s : State), exec (.thumbUnconditionalBranch w) s =
    .next (if 0xE0#8 ≤ bits w 15 8 ∧ bits w 15 8 ≤ 0xE7#8 then { s with outIdx := 2#5, settled := true } else s)) ∧
  (∀ (w : ThumbWord) (s : State), exec (.thumbConditionalBranch w) s =
    .next (if 0xD0#8 ≤ bits w 15 8 ∧ bits w 15 8 ≤ 0xDE#8 then { s with outIdx := 3#5, settled := true } else s)) ∧
  (∀ (w : ThumbWord) (s : State), exec (.thumbLongBranchWithLink w) s =
    .next (if 0xF0#8 ≤ bits w 15 8 then { s with outIdx := 5#5, settled := true } else s)) ∧
  (∀ (w : ThumbWord) (s : State), exec (.thumbHiRegOpBx w) s =
    .next (if 0x44#8 ≤ bits w 15 8 ∧ bits w 15 8 ≤ 0x47#8 then { s with outIdx := 15#5, settled := true } else s))

/-- R124 Multiple load/store, R128 Load/store halfword, R131 Load/store with immediate offset, R132 Load/store with register
offset, R133 Load/store sign-extended byte/halfword, R134 Program-counter-relative load. -/
def Obligations.ThumbLoadStoreRowsDriveTheirNumbers : Prop :=
  (∀ (w : ThumbWord) (s : State), exec (.thumbMultipleLoadStore w) s =
    .next (if 0xC0#8 ≤ bits w 15 8 ∧ bits w 15 8 ≤ 0xCF#8 then { s with outIdx := 4#5, settled := true } else s)) ∧
  (∀ (w : ThumbWord) (s : State), exec (.thumbLoadStoreHalfword w) s =
    .next (if 0x80#8 ≤ bits w 15 8 ∧ bits w 15 8 ≤ 0x8F#8 then { s with outIdx := 8#5, settled := true } else s)) ∧
  (∀ (w : ThumbWord) (s : State), exec (.thumbLoadStoreImmOffset w) s =
    .next (if 0x60#8 ≤ bits w 15 8 ∧ bits w 15 8 ≤ 0x7F#8 then { s with outIdx := 11#5, settled := true } else s)) ∧
  (∀ (w : ThumbWord) (s : State), exec (.thumbLoadStoreRegOffset w) s =
    .next (if bits w 15 8 ∈ [0x50#8, 0x51#8, 0x54#8, 0x55#8, 0x58#8, 0x59#8, 0x5C#8, 0x5D#8]
      then { s with outIdx := 12#5, settled := true } else s)) ∧
  (∀ (w : ThumbWord) (s : State), exec (.thumbLoadStoreSignExtended w) s =
    .next (if bits w 15 8 ∈ [0x52#8, 0x53#8, 0x56#8, 0x57#8, 0x5A#8, 0x5B#8, 0x5E#8, 0x5F#8]
      then { s with outIdx := 13#5, settled := true } else s)) ∧
  (∀ (w : ThumbWord) (s : State), exec (.thumbPcRelativeLoad w) s =
    .next (if 0x48#8 ≤ bits w 15 8 ∧ bits w 15 8 ≤ 0x4F#8 then { s with outIdx := 14#5, settled := true } else s))

/-- R126 Add offset to stack pointer, R127 Push/pop registers, R129 Stack-pointer-relative load/store, R130 Load address. -/
def Obligations.ThumbStackAndAddressRowsDriveTheirNumbers : Prop :=
  (∀ (w : ThumbWord) (s : State), exec (.thumbAddOffsetToSp w) s =
    .next (if bits w 15 8 = 0xB0#8 then { s with outIdx := 6#5, settled := true } else s)) ∧
  (∀ (w : ThumbWord) (s : State), exec (.thumbPushPop w) s =
    .next (if bits w 15 8 ∈ [0xB4#8, 0xB5#8, 0xBC#8, 0xBD#8] then { s with outIdx := 7#5, settled := true } else s)) ∧
  (∀ (w : ThumbWord) (s : State), exec (.thumbSpRelativeLoadStore w) s =
    .next (if 0x90#8 ≤ bits w 15 8 ∧ bits w 15 8 ≤ 0x9F#8 then { s with outIdx := 9#5, settled := true } else s)) ∧
  (∀ (w : ThumbWord) (s : State), exec (.thumbLoadAddress w) s =
    .next (if 0xA0#8 ≤ bits w 15 8 ∧ bits w 15 8 ≤ 0xAF#8 then { s with outIdx := 10#5, settled := true } else s))

/-- R136 ALU operation, R137 Move/compare/add/subtract immediate, R138 Add/subtract, R139 Move shifted register. -/
def Obligations.ThumbArithmeticRowsDriveTheirNumbers : Prop :=
  (∀ (w : ThumbWord) (s : State), exec (.thumbAluOperation w) s =
    .next (if 0x40#8 ≤ bits w 15 8 ∧ bits w 15 8 ≤ 0x43#8 then { s with outIdx := 16#5, settled := true } else s)) ∧
  (∀ (w : ThumbWord) (s : State), exec (.thumbMovCmpAddSubImm w) s =
    .next (if 0x20#8 ≤ bits w 15 8 ∧ bits w 15 8 ≤ 0x3F#8 then { s with outIdx := 17#5, settled := true } else s)) ∧
  (∀ (w : ThumbWord) (s : State), exec (.thumbAddSubtract w) s =
    .next (if 0x18#8 ≤ bits w 15 8 ∧ bits w 15 8 ≤ 0x1F#8 then { s with outIdx := 18#5, settled := true } else s)) ∧
  (∀ (w : ThumbWord) (s : State), exec (.thumbMoveShiftedRegister w) s =
    .next (if bits w 15 8 ≤ 0x17#8 then { s with outIdx := 19#5, settled := true } else s))

/-- R140: the Thumb fallback. -/
def Obligations.ThumbFallbackDrivesZero : Prop :=
  ∀ (w : ThumbWord) (s : State), exec (.thumbIllegal w) s =
    .next (if bits w 15 8 = 0xB1#8 ∨ bits w 15 8 = 0xB2#8 ∨ bits w 15 8 = 0xB3#8 ∨
        (0xB6#8 ≤ bits w 15 8 ∧ bits w 15 8 ≤ 0xBB#8) ∨ bits w 15 8 = 0xBE#8 ∨ bits w 15 8 = 0xBF#8 ∨
        (0xE8#8 ≤ bits w 15 8 ∧ bits w 15 8 ≤ 0xEF#8)
      then { s with outIdx := 0#5, settled := true } else s)

/-- 30_encoding.md R70: the sizes of the 20 Thumb effective sets, Illegal first, of all 2^16 words. -/
def Obligations.ThumbEffectiveSetSizes : Prop :=
  (List.range 20).map (fun k => Set.ncard { w : ThumbWord | rowNumber (thumbRequest w) = k }) =
  [4864, 256, 2048, 3840, 4096, 4096, 256, 1024, 4096, 4096, 4096, 8192, 2048, 2048, 2048, 1024, 1024, 8192, 2048, 6144]

/-- 30_encoding.md R70: the sizes of the 14 ARM effective sets, Illegal first, of all 2^32 words. -/
def Obligations.ArmEffectiveSetSizes : Prop :=
  (List.range 14).map (fun k => Set.ncard { w : ArmWord | rowNumber (armRequest w) = k }) =
  [805306368, 256, 536870912, 536870912, 268435456, 268435456, 805306368, 524288, 16777216, 3407872, 58458112, 1818624,
    3915520, 988839936]

/-! ## The driver -/

/-- 42_host_driver.md R152: with no argument, the usage message on standard error (its text open, D15; nothing on standard
output, D25; lines and not bytes, log entry 7), exit status 2, and no block request: the ports and the responses are as before. -/
def Obligations.NoArgumentIsAUsageError : Prop :=
  ∀ s : State, step (s.ran []) = .next { s with runs := s.runs ++ [⟨[], [], [Config.usageText], 2⟩] }

/-- 42_host_driver.md R154: with one argument whose length is neither 4 nor 8, the format message on standard error (nothing
on standard output, D25; lines and not bytes, log entry 7), exit status 1, and no block request. -/
def Obligations.AWrongLengthIsAFormatError : Prop :=
  ∀ (s : State) (a : String), a.toList.length ≠ 4 → a.toList.length ≠ 8 →
    step (s.ran [a]) = .next { s with runs := s.runs ++
      [⟨[a], [], ["Incorrect instruction format. Expected 32-bit or 16-bit hex value"], 1⟩] }

/-- 42_host_driver.md R155 (both letter cases: D16): the value of a hex digit. -/
def Obligations.HexDigitsHaveTheirValuesInBothCases : Prop :=
  "0123456789abcdef".toList.map hexDigit? = (List.range 16).map some ∧
  "0123456789ABCDEF".toList.map hexDigit? = (List.range 16).map some ∧
  ∀ c : Char, hexDigit? c ≠ none → c ∈ "0123456789abcdefABCDEF".toList

/-- 42_host_driver.md R153, R155, R156, R157 (the line's exact form is D12): one argument of 8 hex digits is one ARM request,
one of 4 hex digits one Thumb request, for the word the digits spell with the leftmost the most significant; the driver
prints the label of the answer behind the prefix of the instruction set and exits with status 0. The next state is given
whole. That the run is one step and its response is logged under the caller `driver` is the model's DESIGN CHOICE (log entry 8),
and so is a line without its terminator (log entry 7). -/
def Obligations.ASuccessfulRunAsksOnceAndPrintsTheLabel : Prop :=
  ∀ (s : State) (a : String) (ds : List Nat) (isa : IsaBit) (pre : String),
    a.toList.map hexDigit? = ds.map some →
    (ds.length = 8 ∧ isa = 0#1 ∧ pre = "ARM: ") ∨ (ds.length = 4 ∧ isa = 1#1 ∧ pre = "THUMB: ") →
    ∃ v l, v = (ds.zipIdx.map fun p => p.1 * 16 ^ (ds.length - 1 - p.2)).sum ∧ v < 16 ^ ds.length ∧
      label? (selectIsa isa) (classify ⟨isa, BitVec.ofNat 32 v⟩) = some l ∧
      step (s.ran [a]) = .next { s with
        inIsa := isa, inWord := BitVec.ofNat 32 v, outIdx := classify ⟨isa, BitVec.ofNat 32 v⟩, settled := true,
        responses := s.responses ++ [⟨.driver, ⟨isa, BitVec.ofNat 32 v⟩, classify ⟨isa, BitVec.ofNat 32 v⟩, true⟩],
        runs := s.runs ++ [⟨[a], [pre ++ l], [], 0⟩] }

/-- 42_host_driver.md R151 and R158: the two kinds of run the spec has a model refuse (decisions D14 and D13). -/
def Obligations.TheRefusedRunsAreRefused : Prop :=
  (∀ (s : State) (a b : String) (rest : List String), step (s.ran (a :: b :: rest)) = .refused .hostManyArguments) ∧
  (∀ (s : State) (a : String), (a.toList.length = 4 ∨ a.toList.length = 8) → (∃ c ∈ a.toList, hexDigit? c = none) →
    step (s.ran [a]) = .refused .hostNonHexArgument)

/-- 42_host_driver.md R159: exactly two error conditions, told apart by their exit statuses, and no partial effect of a run
that fails. The exit statuses and the streams are those of R152, R154, R157 and R160 (the empty standard output of an error is
decision D25), and the one request of a successful run is R156's. A message is one line (DESIGN CHOICE, log entry 7), and the
request is logged among the responses (DESIGN CHOICE, log entry 8). -/
def Obligations.TheDriverHasTwoErrorConditions : Prop :=
  ∀ (s t : State) (argv : List String), step (s.ran argv) = .next t →
    ∃ r : RunRecord, t.runs = s.runs ++ [r] ∧ r.argv = argv ∧
      (r.exit = 2 ↔ argv = []) ∧
      (r.exit = 1 ↔ ∃ a, argv = [a] ∧ a.toList.length ≠ 4 ∧ a.toList.length ≠ 8) ∧
      (r.exit = 0 ∨ r.exit = 1 ∨ r.exit = 2) ∧
      (r.exit ≠ 0 → t = { s with runs := s.runs ++ [r] } ∧ r.stdout = [] ∧ r.stderr.length = 1) ∧
      (r.exit = 0 → r.stderr = [] ∧ r.stdout.length = 1 ∧ t.responses.length = s.responses.length + 1)

/-- 42_host_driver.md R157 with the labels of 30_encoding.md R66 and R67 (their spelling is D11, the line's form D12 and log
entry 7): the text of the line a successful run prints, for each number of the sequential classifiers, and for the row families
that no earlier row takes words from, by the fields of the word the digits spell. -/
def Obligations.ASuccessfulRunPrintsTheTextOfItsCategory : Prop :=
  ∀ (s : State) (a : String) (ds : List Nat), a.toList.map hexDigit? = ds.map some →
    (ds.length = 8 → ∃ (w : ArmWord) (t : State) (l : String),
      w = BitVec.ofNat 32 (ds.zipIdx.map fun p => p.1 * 16 ^ (ds.length - 1 - p.2)).sum ∧
      step (s.ran [a]) = .next t ∧ t.runs = s.runs ++ [⟨[a], [l], [], 0⟩] ∧
      ([
        "ARM: Illegal instruction",
        "ARM: Branch and exchange",
        "ARM: Block data transfer",
        "ARM: Branch / branch with link",
        "ARM: Software interrupt",
        "ARM: Undefined",
        "ARM: Single data transfer",
        "ARM: Single data swap",
        "ARM: Multiply / multiply long",
        "ARM: Halfword transfer (register offset)",
        "ARM: Halfword transfer (immediate offset)",
        "ARM: PSR transfer (read)",
        "ARM: PSR transfer (write)",
        "ARM: Data processing"] : List String)[armClassify w]? = some l ∧
      (bits w 27 4 = 0x012FFF1#24 → l = "ARM: Branch and exchange") ∧
      (bits w 27 25 = 0b100#3 → l = "ARM: Block data transfer") ∧
      (bits w 27 25 = 0b101#3 → l = "ARM: Branch / branch with link") ∧
      (bits w 27 24 = 0b1111#4 → l = "ARM: Software interrupt") ∧
      (bits w 27 25 = 0b011#3 ∧ bits w 4 4 = 1#1 → l = "ARM: Undefined") ∧
      (bits w 27 25 = 0b010#3 → l = "ARM: Single data transfer") ∧
      (bits w 27 23 = 0b00010#5 ∧ bits w 11 4 = 0x09#8 → l = "ARM: Single data swap") ∧
      (bits w 27 24 = 0b0000#4 ∧ bits w 7 4 = 0b1001#4 → l = "ARM: Multiply / multiply long") ∧
      (bits w 27 25 = 0b110#3 ∨ bits w 27 24 = 0b1110#4 → l = "ARM: Illegal instruction")) ∧
    (ds.length = 4 → ∃ (w : ThumbWord) (t : State) (l : String),
      w = BitVec.ofNat 16 (ds.zipIdx.map fun p => p.1 * 16 ^ (ds.length - 1 - p.2)).sum ∧
      step (s.ran [a]) = .next t ∧ t.runs = s.runs ++ [⟨[a], [l], [], 0⟩] ∧
      ([
        "THUMB: Illegal instruction",
        "THUMB: Software interrupt",
        "THUMB: Unconditional branch",
        "THUMB: Conditional branch",
        "THUMB: Multiple load/store",
        "THUMB: Long branch with link",
        "THUMB: Add offset to stack pointer",
        "THUMB: Push/pop registers",
        "THUMB: Load/store halfword",
        "THUMB: Stack-pointer-relative load/store",
        "THUMB: Load address",
        "THUMB: Load/store with immediate offset",
        "THUMB: Load/store with register offset",
        "THUMB: Load/store sign-extended byte/halfword",
        "THUMB: Program-counter-relative load",
        "THUMB: Hi-register operation / branch exchange",
        "THUMB: ALU operation",
        "THUMB: Move/compare/add/subtract immediate",
        "THUMB: Add/subtract",
        "THUMB: Move shifted register"] : List String)[thumbClassify w]? = some l ∧
      (bits w 15 8 = 0xDF#8 → l = "THUMB: Software interrupt") ∧
      (bits w 15 11 = 0b11100#5 → l = "THUMB: Unconditional branch") ∧
      (bits w 15 12 = 0b1100#4 → l = "THUMB: Multiple load/store") ∧
      (bits w 15 12 = 0b1111#4 → l = "THUMB: Long branch with link") ∧
      (bits w 15 8 = 0xB0#8 → l = "THUMB: Add offset to stack pointer") ∧
      (bits w 15 12 = 0b1000#4 → l = "THUMB: Load/store halfword") ∧
      (bits w 15 12 = 0b1001#4 → l = "THUMB: Stack-pointer-relative load/store") ∧
      (bits w 15 12 = 0b1010#4 → l = "THUMB: Load address") ∧
      (bits w 15 13 = 0b011#3 → l = "THUMB: Load/store with immediate offset") ∧
      (bits w 15 11 = 0b01001#5 → l = "THUMB: Program-counter-relative load") ∧
      (bits w 15 10 = 0b010001#6 → l = "THUMB: Hi-register operation / branch exchange") ∧
      (bits w 15 10 = 0b010000#6 → l = "THUMB: ALU operation") ∧
      (bits w 15 13 = 0b001#3 → l = "THUMB: Move/compare/add/subtract immediate") ∧
      (bits w 15 11 = 0b00011#5 → l = "THUMB: Add/subtract") ∧
      (bits w 15 11 = 0b11101#5 → l = "THUMB: Illegal instruction"))
end

