-- ==== Sys2Proof/Laws/State.lean ====
section
/-! SUPPORT. One lemma per field per update of the state, each true by rfl. -/

namespace Sys2Proof.Machine

variable (s : State)

@[simp] theorem State.drive_inIsa (k : Idx) : (s.drive k).inIsa = s.inIsa := rfl
@[simp] theorem State.drive_inWord (k : Idx) : (s.drive k).inWord = s.inWord := rfl
@[simp] theorem State.drive_outIdx (k : Idx) : (s.drive k).outIdx = k := rfl
@[simp] theorem State.drive_settled (k : Idx) : (s.drive k).settled = true := rfl
@[simp] theorem State.drive_jobs (k : Idx) : (s.drive k).jobs = s.jobs := rfl
@[simp] theorem State.drive_responses (k : Idx) : (s.drive k).responses = s.responses := rfl
@[simp] theorem State.drive_runs (k : Idx) : (s.drive k).runs = s.runs := rfl
@[simp] theorem State.drive_freeCount (k : Idx) : (s.drive k).freeCount = s.freeCount := rfl

@[simp] theorem State.present_inIsa (r : Request) : (s.present r).inIsa = r.inIsa := rfl
@[simp] theorem State.present_inWord (r : Request) : (s.present r).inWord = r.inWord := rfl
@[simp] theorem State.present_outIdx (r : Request) : (s.present r).outIdx = s.outIdx := rfl
@[simp] theorem State.present_settled (r : Request) : (s.present r).settled = false := rfl
@[simp] theorem State.present_jobs (r : Request) : (s.present r).jobs = s.jobs := rfl
@[simp] theorem State.present_responses (r : Request) : (s.present r).responses = s.responses := rfl
@[simp] theorem State.present_runs (r : Request) : (s.present r).runs = s.runs := rfl
@[simp] theorem State.present_freeCount (r : Request) : (s.present r).freeCount = s.freeCount := rfl

@[simp] theorem State.unsettle_inIsa : (s.unsettle).inIsa = s.inIsa := rfl
@[simp] theorem State.unsettle_inWord : (s.unsettle).inWord = s.inWord := rfl
@[simp] theorem State.unsettle_outIdx : (s.unsettle).outIdx = Config.unsettledIdx s.freeCount := rfl
@[simp] theorem State.unsettle_settled : (s.unsettle).settled = false := rfl
@[simp] theorem State.unsettle_jobs : (s.unsettle).jobs = s.jobs := rfl
@[simp] theorem State.unsettle_responses : (s.unsettle).responses = s.responses := rfl
@[simp] theorem State.unsettle_runs : (s.unsettle).runs = s.runs := rfl
@[simp] theorem State.unsettle_freeCount : (s.unsettle).freeCount = s.freeCount + 1 := rfl

@[simp] theorem State.sample_inIsa (c : Caller) : (s.sample c).inIsa = s.inIsa := rfl
@[simp] theorem State.sample_inWord (c : Caller) : (s.sample c).inWord = s.inWord := rfl
@[simp] theorem State.sample_outIdx (c : Caller) : (s.sample c).outIdx = s.outIdx := rfl
@[simp] theorem State.sample_settled (c : Caller) : (s.sample c).settled = s.settled := rfl
@[simp] theorem State.sample_jobs (c : Caller) : (s.sample c).jobs = s.jobs := rfl
@[simp] theorem State.sample_responses (c : Caller) : (s.sample c).responses = s.responses ++ [⟨c, s.onPorts, s.outIdx, s.settled⟩] := rfl
@[simp] theorem State.sample_runs (c : Caller) : (s.sample c).runs = s.runs := rfl
@[simp] theorem State.sample_freeCount (c : Caller) : (s.sample c).freeCount = s.freeCount := rfl

@[simp] theorem State.logRun_inIsa (r : RunRecord) : (s.logRun r).inIsa = s.inIsa := rfl
@[simp] theorem State.logRun_inWord (r : RunRecord) : (s.logRun r).inWord = s.inWord := rfl
@[simp] theorem State.logRun_outIdx (r : RunRecord) : (s.logRun r).outIdx = s.outIdx := rfl
@[simp] theorem State.logRun_settled (r : RunRecord) : (s.logRun r).settled = s.settled := rfl
@[simp] theorem State.logRun_jobs (r : RunRecord) : (s.logRun r).jobs = s.jobs := rfl
@[simp] theorem State.logRun_responses (r : RunRecord) : (s.logRun r).responses = s.responses := rfl
@[simp] theorem State.logRun_runs (r : RunRecord) : (s.logRun r).runs = s.runs ++ [r] := rfl
@[simp] theorem State.logRun_freeCount (r : RunRecord) : (s.logRun r).freeCount = s.freeCount := rfl

@[simp] theorem State.onPorts_drive (k : Idx) : (s.drive k).onPorts = s.onPorts := rfl
@[simp] theorem State.onPorts_present (r : Request) : (s.present r).onPorts = r := rfl
@[simp] theorem State.onPorts_unsettle : s.unsettle.onPorts = s.onPorts := rfl
@[simp] theorem State.onPorts_sample (c : Caller) : (s.sample c).onPorts = s.onPorts := rfl
@[simp] theorem State.onPorts_logRun (r : RunRecord) : (s.logRun r).onPorts = s.onPorts := rfl
@[simp] theorem State.onPorts_jobs (l : List Job) : ({ s with jobs := l } : State).onPorts = s.onPorts := rfl
@[simp] theorem State.fetched_eq : s.fetched = decode s.onPorts := rfl
@[simp] theorem State.asked_jobs (c : Caller) (r : Request) : (s.asked c r).jobs = .request c r :: s.jobs := rfl
@[simp] theorem State.ran_jobs (argv : List String) : (s.ran argv).jobs = .run argv :: s.jobs := rfl

end Sys2Proof.Machine
end

