-- ==== Sys2Proof/Laws/Tables.lean ====
section
/-! SUPPORT. What a row match, the first-match procedure and a row's condition come to. -/

namespace Sys2Proof

variable {n : Nat}

theorem Row.hit_iff (r : Row n) (w : BitVec n) : r.hit w = true ↔ w &&& r.mask = r.pattern := by
  simp [Row.hit]

/-- A masked comparison, bit by bit. -/
theorem and_eq_iff_bits {w m p : BitVec n} (hp : p &&& ~~~m = 0#n) :
    w &&& m = p ↔ ∀ i, m.getLsbD i = true → w.getLsbD i = p.getLsbD i := by
  have hbit : ∀ i, m.getLsbD i = false → p.getLsbD i = false := by
    intro i hm
    have h := congrArg (fun v => v.getLsbD i) hp
    by_cases hi : i < n
    · rw [BitVec.getLsbD_and, BitVec.getLsbD_not, hm] at h
      simpa only [hi, decide_true, Bool.not_false, Bool.and_true, BitVec.getLsbD_zero] using h
    · exact BitVec.getLsbD_of_ge _ _ (by omega)
  constructor
  · intro h i hm
    rw [← h, BitVec.getLsbD_and, hm, Bool.and_true]
  · intro h
    apply BitVec.eq_of_getLsbD_eq
    intro i _
    rw [BitVec.getLsbD_and]
    cases hm : m.getLsbD i
    · simp [hbit i hm]
    · simp [h i hm]

/-- A field comparison, bit by bit. -/
theorem bits_eq_iff (w : BitVec n) (hi lo : Nat) (v : BitVec (hi - lo + 1)) :
    bits w hi lo = v ↔ ∀ i, i < hi - lo + 1 → w.getLsbD (lo + i) = v.getLsbD i := by
  constructor
  · rintro rfl i h
    have : lo + i ≤ max hi lo := by omega
    simp [bits]
    omega
  · intro h
    apply BitVec.eq_of_getLsbD_eq
    intro i hlt
    rw [← h i hlt]
    simp [bits]
    omega

/-- A row of a table whose patterns stay inside their masks compares the bits its mask names, and no others. -/
theorem Row.hit_iff_bits (r : Row n) (w : BitVec n) (hp : r.pattern &&& ~~~r.mask = 0#n) :
    r.hit w = true ↔ ∀ i, r.mask.getLsbD i = true → w.getLsbD i = r.pattern.getLsbD i :=
  (r.hit_iff w).trans (and_eq_iff_bits hp)

theorem noneHit_cons (r : Row n) (table : List (Row n)) (w : BitVec n) :
    noneHit (r :: table) w = (!r.hit w && noneHit table w) := rfl

theorem firstMatchFrom_eq_zero (table : List (Row n)) (w : BitVec n) :
    ∀ k, 0 < k → (firstMatchFrom k table w = 0 ↔ noneHit table w = true) := by
  induction table with
  | nil => intro k _; simp [firstMatchFrom, noneHit]
  | cons r rest ih =>
    intro k hk
    rw [firstMatchFrom, noneHit_cons]
    cases hr : r.hit w
    · simpa using ih (k + 1) (by omega)
    · simp; omega

/-- The fallback's condition is that `FirstMatch` gives 0. -/
theorem noneHit_iff (table : List (Row n)) (w : BitVec n) :
    noneHit table w = true ↔ firstMatch table w = 0 :=
  (firstMatchFrom_eq_zero table w 1 (by omega)).symm

theorem firstMatchFrom_bounds (table : List (Row n)) (w : BitVec n) :
    ∀ k, firstMatchFrom k table w = 0 ∨
      (k ≤ firstMatchFrom k table w ∧ firstMatchFrom k table w < k + table.length) := by
  induction table with
  | nil => intro k; simp [firstMatchFrom]
  | cons r rest ih =>
    intro k
    rw [firstMatchFrom]
    cases hr : r.hit w
    · have := ih (k + 1)
      simp only [Bool.false_eq_true, if_false, List.length_cons]
      omega
    · simp

theorem firstMatch_le (table : List (Row n)) (w : BitVec n) : firstMatch table w ≤ table.length := by
  have := firstMatchFrom_bounds table w 1
  unfold firstMatch
  omega

theorem firstMatchFrom_eq_add (table : List (Row n)) (w : BitVec n) :
    ∀ k j, 0 < k → (firstMatchFrom k table w = k + j ↔
      ((table[j]?.any fun r => r.hit w) && noneHit (table.take j) w) = true) := by
  induction table with
  | nil => intro k j hk; simp [firstMatchFrom]; omega
  | cons r rest ih =>
    intro k j hk
    rw [firstMatchFrom]
    cases hr : r.hit w
    · cases j with
      | zero =>
        have := firstMatchFrom_bounds rest w (k + 1)
        simp [hr]
        omega
      | succ j =>
        have := ih (k + 1) j (by omega)
        simp [noneHit_cons, hr, ← this]
        omega
    · cases j with
      | zero => simp [hr, noneHit]
      | succ j => simp [noneHit_cons, hr]

/-- Row `k`'s condition is that `FirstMatch` gives `k`. -/
theorem rowWins_iff (table : List (Row n)) (w : BitVec n) (k : Nat) (hk : 0 < k) :
    rowWins table k w = true ↔ firstMatch table w = k := by
  have h := firstMatchFrom_eq_add table w 1 (k - 1) (by omega)
  rw [show 1 + (k - 1) = k by omega] at h
  exact h.symm

theorem armFirstMatch_le (w : ArmWord) : firstMatch armTable w ≤ 13 := firstMatch_le armTable w

theorem thumbFirstMatch_le (w : ThumbWord) : firstMatch thumbTable w ≤ 19 := firstMatch_le thumbTable w

@[simp] theorem thumbOperand_setWidth (w : ThumbWord) : thumbOperand (w.setWidth 32) = w := by
  apply BitVec.eq_of_getLsbD_eq
  intro i hi
  simp [thumbOperand, hi]

theorem decode_arm (w : ArmWord) : decode (armRequest w) = armInstr (firstMatch armTable w) w := rfl

theorem decode_thumb (w : ThumbWord) : decode (thumbRequest w) = thumbInstr (firstMatch thumbTable w) w := by
  have h : decode (thumbRequest w) =
      thumbInstr (firstMatch thumbTable (thumbOperand (w.setWidth 32))) (thumbOperand (w.setWidth 32)) := rfl
  rw [h, thumbOperand_setWidth]

theorem rowNumber_armRequest (w : ArmWord) : rowNumber (armRequest w) = firstMatch armTable w := rfl

theorem rowNumber_thumbRequest (w : ThumbWord) : rowNumber (thumbRequest w) = firstMatch thumbTable w := by
  have h : rowNumber (thumbRequest w) = firstMatch thumbTable (thumbOperand (w.setWidth 32)) := rfl
  rw [h, thumbOperand_setWidth]

/-- The instruction that stands for the row number of an ARM word is well formed and has that number. -/
theorem armInstr_spec (w : ArmWord) :
    (armInstr (firstMatch armTable w) w).wellFormed = true ∧
      (armInstr (firstMatch armTable w) w).code = BitVec.ofNat 5 (firstMatch armTable w) := by
  have hle := armFirstMatch_le w
  generalize hk : firstMatch armTable w = k at hle
  interval_cases k
  · exact ⟨(noneHit_iff armTable w).2 hk, rfl⟩
  all_goals exact ⟨(rowWins_iff armTable w _ (by decide)).2 hk, rfl⟩

/-- The instruction that stands for the row number of a Thumb word is well formed and has that number. -/
theorem thumbInstr_spec (w : ThumbWord) :
    (thumbInstr (firstMatch thumbTable w) w).wellFormed = true ∧
      (thumbInstr (firstMatch thumbTable w) w).code = BitVec.ofNat 5 (firstMatch thumbTable w) := by
  have hle := thumbFirstMatch_le w
  generalize hk : firstMatch thumbTable w = k at hle
  interval_cases k
  · exact ⟨(noneHit_iff thumbTable w).2 hk, rfl⟩
  all_goals exact ⟨(rowWins_iff thumbTable w _ (by decide)).2 hk, rfl⟩

theorem decode_spec (r : Request) :
    (decode r).wellFormed = true ∧ (decode r).code = BitVec.ofNat 5 (rowNumber r) := by
  unfold decode rowNumber
  cases selectIsa r.inIsa
  · exact armInstr_spec r.inWord
  · exact thumbInstr_spec (thumbOperand r.inWord)

/-- The decoder answers a well-formed instruction, whatever the request. -/
theorem decode_wellFormed (r : Request) : (decode r).wellFormed = true := (decode_spec r).1

/-- The decoder answers an instruction whose code is the row number of the request. -/
theorem decode_code (r : Request) : (decode r).code = BitVec.ofNat 5 (rowNumber r) := (decode_spec r).2

end Sys2Proof
end

