-- ==== Sys2Proof/Laws/Ops.lean ====
section
/-! SUPPORT. What the shared operations, an instruction and one job can do, each said once. -/

namespace Sys2Proof.Machine

theorem rowRule_eq (fires : Bool) (k : Idx) (s : State) :
    rowRule fires k s = .next (if fires then s.drive k else s) := rfl

/-- Everything an instruction can do: its row's number is driven when its word is the row's, and nothing happens otherwise. -/
theorem exec_eq (i : Instr) (s : State) :
    exec i s = .next (if i.wellFormed then s.drive i.code else s) := by
  cases i <;> rfl

@[simp] theorem andThen_next (s : State) (f : State → Host.Outcome State Fault Refusal) :
    andThen (.next s) f = f s := rfl

/-- The block settles on the inputs: the output is their row number, and nothing else changes. -/
theorem evaluate_eq (s : State) : evaluate s = .next (s.drive (BitVec.ofNat 5 (rowNumber s.onPorts))) := by
  rw [evaluate, exec_eq, State.fetched_eq, decode_wellFormed, decode_code, if_pos rfl]

theorem serveRequest_eq (c : Caller) (r : Request) (s : State) :
    serveRequest c r s = .next (((s.present r).drive (BitVec.ofNat 5 (rowNumber r))).sample c) := by
  rw [serveRequest, evaluate_eq, andThen_next, State.onPorts_present]

theorem step_idle {s : State} (h : s.jobs = []) :
    step s = .next (s.drive (BitVec.ofNat 5 (rowNumber s.onPorts))) := by
  rw [step, h]
  exact evaluate_eq s

theorem step_job {s : State} {j : Job} {rest : List Job} (h : s.jobs = j :: rest) :
    step s = serve j { s with jobs := rest } := by
  rw [step, h]

theorem step_asked (s : State) (c : Caller) (r : Request) : step (s.asked c r) = serveRequest c r s := rfl

theorem step_ran (s : State) (argv : List String) : step (s.ran argv) = serveRun argv s := rfl

/-- A run of several steps goes on from the state the first one answers. -/
theorem core_run_succ (M : Host.Core) {s t : M.State} (h : M.step s = .next t) (k : Nat) :
    M.run (k + 1) s = M.run k t := by
  rw [Host.Core.run, h]

theorem run_succ {s t : State} (h : step s = .next t) (k : Nat) : core.run (k + 1) s = core.run k t :=
  core_run_succ core h k

theorem serveRun_finish {argv : List String} {r : RunRecord} (h : driverPlan argv = .finish r) (s : State) :
    serveRun argv s = .next (s.logRun r) := by
  rw [serveRun, h]

theorem serveRun_refuse {argv : List String} {x : Refusal} (h : driverPlan argv = .refuse x) (s : State) :
    serveRun argv s = .refused x := by
  rw [serveRun, h]

theorem serveRun_ask {argv : List String} {r : Request} (h : driverPlan argv = .ask r) (s : State) :
    serveRun argv s =
      driverPrint argv (((s.present r).drive (BitVec.ofNat 5 (rowNumber r))).sample .driver) := by
  rw [serveRun, h]
  show andThen (serveRequest .driver r s) _ = _
  rw [serveRequest_eq, andThen_next]

/-- The row number of a request is the number of a row or 0, and has a label. -/
theorem label_rowNumber (r : Request) :
    ∃ l, label? (selectIsa r.inIsa) (BitVec.ofNat 5 (rowNumber r)) = some l := by
  unfold rowNumber
  cases selectIsa r.inIsa
  · have hle := armFirstMatch_le r.inWord
    show ∃ l, label? .arm (BitVec.ofNat 5 (firstMatch armTable r.inWord)) = some l
    generalize firstMatch armTable r.inWord = k at hle
    interval_cases k <;> exact ⟨_, rfl⟩
  · have hle := thumbFirstMatch_le (thumbOperand r.inWord)
    show ∃ l, label? .thumb (BitVec.ofNat 5 (firstMatch thumbTable (thumbOperand r.inWord))) = some l
    generalize firstMatch thumbTable (thumbOperand r.inWord) = k at hle
    interval_cases k <;> exact ⟨_, rfl⟩

end Sys2Proof.Machine
end

