-- ==== Sys2Proof/Laws/Driver.lean ====
section
/-! SUPPORT. What the driver's digit reading comes to, and a run whose argument spells a word. -/

namespace Sys2Proof.Machine

/-- The value of a digit is below 16. -/
theorem hexDigit_lt {c : Char} {d : Nat} (h : hexDigit? c = some d) : d < 16 := by
  unfold hexDigit? at h
  simp only at h
  split at h
  · simp at h; omega
  · split at h
    · simp at h; omega
    · split at h
      · simp at h; omega
      · cases h

/-- A digit string is read from the left, each digit weighted by its place. -/
theorem hexValueFrom_eq (cs : List Char) : ∀ (ds : List Nat) (acc : Nat), cs.map hexDigit? = ds.map some →
    hexValueFrom acc cs =
      some (acc * 16 ^ ds.length + (ds.zipIdx.map fun p => p.1 * 16 ^ (ds.length - 1 - p.2)).sum) := by
  induction cs with
  | nil => intro ds acc h; cases ds <;> simp_all [hexValueFrom]
  | cons c rest ih =>
    intro ds acc h
    cases ds with
    | nil => simp at h
    | cons d ds =>
      simp only [List.map_cons, List.cons.injEq] at h
      rw [hexValueFrom, h.1]
      simp only
      rw [ih ds _ h.2, List.zipIdx_cons, List.zipIdx_succ]
      have e : (fun x : Nat × Nat => x.1 * 16 ^ (ds.length - (x.2 + 1))) =
          fun x => x.1 * 16 ^ (ds.length - 1 - x.2) := by
        funext x
        rw [Nat.sub_sub, Nat.add_comm]
      simp only [List.map_cons, List.map_map, Function.comp_def, List.length_cons, Nat.add_sub_cancel, Nat.sub_zero,
        List.sum_cons]
      rw [e, pow_succ]
      congr 1
      ring

/-- A character that is no hex digit leaves a string without a value. -/
theorem hexValueFrom_none {c : Char} (hn : hexDigit? c = none) (cs : List Char) :
    ∀ acc, c ∈ cs → hexValueFrom acc cs = none := by
  induction cs with
  | nil => intro _ h; cases h
  | cons d rest ih =>
    intro acc h
    rw [hexValueFrom]
    rcases List.mem_cons.1 h with rfl | h
    · rw [hn]
    · cases hexDigit? d
      · rfl
      · exact ih _ h

/-- A run with one argument that spells a word: one request, answered by its row number, and one line with that number's
label. -/
theorem serveRun_word {a : String} {isa : IsaBit} {v : Nat} (hl : lengthIsa? a.toList.length = some isa)
    (hv : hexValue? a.toList = some v) (s : State) :
    ∃ l, label? (selectIsa isa) (BitVec.ofNat 5 (rowNumber ⟨isa, BitVec.ofNat 32 v⟩)) = some l ∧
      serveRun [a] s = .next ((((s.present ⟨isa, BitVec.ofNat 32 v⟩).drive
        (BitVec.ofNat 5 (rowNumber ⟨isa, BitVec.ofNat 32 v⟩))).sample .driver).logRun
          ⟨[a], [printPrefix (selectIsa isa) ++ l], [], 0⟩) := by
  obtain ⟨l, h⟩ := label_rowNumber ⟨isa, BitVec.ofNat 32 v⟩
  have hp : driverPlan [a] = .ask ⟨isa, BitVec.ofNat 32 v⟩ := by simp only [driverPlan, hl, hv]
  refine ⟨l, h, ?_⟩
  rw [serveRun_ask hp, driverPrint]
  show (match label? (selectIsa isa) (BitVec.ofNat 5 (rowNumber ⟨isa, BitVec.ofNat 32 v⟩)) with
    | some l => _
    | none => _) = _
  rw [h]
  rfl

end Sys2Proof.Machine
end

