-- ==== Sys2Proof/Laws/PerInstr.lean ====
section
/-! SUPPORT. The statements that are made per instruction, one lemma per constructor. -/

namespace Sys2Proof.Laws.FirstMatchRow

/-- A well-formed instruction's word has the number of its own row: the row's condition is what `FirstMatch` computes. -/
def Statement (i : Instr) : Prop := i.wellFormed = true → BitVec.ofNat 5 (rowNumber (encode i)) = i.code

theorem arm_row {w : ArmWord} {k : Nat} (hk : 0 < k) (h : rowWins armTable k w = true) :
    BitVec.ofNat 5 (rowNumber (armRequest w)) = BitVec.ofNat 5 k := by
  rw [rowNumber_armRequest, (rowWins_iff armTable w k hk).1 h]

theorem arm_fallback {w : ArmWord} (h : noneHit armTable w = true) :
    BitVec.ofNat 5 (rowNumber (armRequest w)) = 0#5 := by
  rw [rowNumber_armRequest, (noneHit_iff armTable w).1 h]

theorem thumb_row {w : ThumbWord} {k : Nat} (hk : 0 < k) (h : rowWins thumbTable k w = true) :
    BitVec.ofNat 5 (rowNumber (thumbRequest w)) = BitVec.ofNat 5 k := by
  rw [rowNumber_thumbRequest, (rowWins_iff thumbTable w k hk).1 h]

theorem thumb_fallback {w : ThumbWord} (h : noneHit thumbTable w = true) :
    BitVec.ofNat 5 (rowNumber (thumbRequest w)) = 0#5 := by
  rw [rowNumber_thumbRequest, (noneHit_iff thumbTable w).1 h]

theorem armBranchExchange (w : ArmWord) : Statement (.armBranchExchange w) := arm_row (k := 1) (by decide)
theorem armBlockDataTransfer (w : ArmWord) : Statement (.armBlockDataTransfer w) := arm_row (k := 2) (by decide)
theorem armBranch (w : ArmWord) : Statement (.armBranch w) := arm_row (k := 3) (by decide)
theorem armSoftwareInterrupt (w : ArmWord) : Statement (.armSoftwareInterrupt w) := arm_row (k := 4) (by decide)
theorem armUndefined (w : ArmWord) : Statement (.armUndefined w) := arm_row (k := 5) (by decide)
theorem armSingleDataTransfer (w : ArmWord) : Statement (.armSingleDataTransfer w) := arm_row (k := 6) (by decide)
theorem armSingleDataSwap (w : ArmWord) : Statement (.armSingleDataSwap w) := arm_row (k := 7) (by decide)
theorem armMultiply (w : ArmWord) : Statement (.armMultiply w) := arm_row (k := 8) (by decide)
theorem armHalfwordTransferReg (w : ArmWord) : Statement (.armHalfwordTransferReg w) := arm_row (k := 9) (by decide)
theorem armHalfwordTransferImm (w : ArmWord) : Statement (.armHalfwordTransferImm w) := arm_row (k := 10) (by decide)
theorem armPsrTransferRead (w : ArmWord) : Statement (.armPsrTransferRead w) := arm_row (k := 11) (by decide)
theorem armPsrTransferWrite (w : ArmWord) : Statement (.armPsrTransferWrite w) := arm_row (k := 12) (by decide)
theorem armDataProcessing (w : ArmWord) : Statement (.armDataProcessing w) := arm_row (k := 13) (by decide)
theorem armIllegal (w : ArmWord) : Statement (.armIllegal w) := arm_fallback
theorem thumbSoftwareInterrupt (w : ThumbWord) : Statement (.thumbSoftwareInterrupt w) := thumb_row (k := 1) (by decide)
theorem thumbUnconditionalBranch (w : ThumbWord) : Statement (.thumbUnconditionalBranch w) := thumb_row (k := 2) (by decide)
theorem thumbConditionalBranch (w : ThumbWord) : Statement (.thumbConditionalBranch w) := thumb_row (k := 3) (by decide)
theorem thumbMultipleLoadStore (w : ThumbWord) : Statement (.thumbMultipleLoadStore w) := thumb_row (k := 4) (by decide)
theorem thumbLongBranchWithLink (w : ThumbWord) : Statement (.thumbLongBranchWithLink w) := thumb_row (k := 5) (by decide)
theorem thumbAddOffsetToSp (w : ThumbWord) : Statement (.thumbAddOffsetToSp w) := thumb_row (k := 6) (by decide)
theorem thumbPushPop (w : ThumbWord) : Statement (.thumbPushPop w) := thumb_row (k := 7) (by decide)
theorem thumbLoadStoreHalfword (w : ThumbWord) : Statement (.thumbLoadStoreHalfword w) := thumb_row (k := 8) (by decide)
theorem thumbSpRelativeLoadStore (w : ThumbWord) : Statement (.thumbSpRelativeLoadStore w) := thumb_row (k := 9) (by decide)
theorem thumbLoadAddress (w : ThumbWord) : Statement (.thumbLoadAddress w) := thumb_row (k := 10) (by decide)
theorem thumbLoadStoreImmOffset (w : ThumbWord) : Statement (.thumbLoadStoreImmOffset w) := thumb_row (k := 11) (by decide)
theorem thumbLoadStoreRegOffset (w : ThumbWord) : Statement (.thumbLoadStoreRegOffset w) := thumb_row (k := 12) (by decide)
theorem thumbLoadStoreSignExtended (w : ThumbWord) : Statement (.thumbLoadStoreSignExtended w) := thumb_row (k := 13) (by decide)
theorem thumbPcRelativeLoad (w : ThumbWord) : Statement (.thumbPcRelativeLoad w) := thumb_row (k := 14) (by decide)
theorem thumbHiRegOpBx (w : ThumbWord) : Statement (.thumbHiRegOpBx w) := thumb_row (k := 15) (by decide)
theorem thumbAluOperation (w : ThumbWord) : Statement (.thumbAluOperation w) := thumb_row (k := 16) (by decide)
theorem thumbMovCmpAddSubImm (w : ThumbWord) : Statement (.thumbMovCmpAddSubImm w) := thumb_row (k := 17) (by decide)
theorem thumbAddSubtract (w : ThumbWord) : Statement (.thumbAddSubtract w) := thumb_row (k := 18) (by decide)
theorem thumbMoveShiftedRegister (w : ThumbWord) : Statement (.thumbMoveShiftedRegister w) := thumb_row (k := 19) (by decide)
theorem thumbIllegal (w : ThumbWord) : Statement (.thumbIllegal w) := thumb_fallback

end Sys2Proof.Laws.FirstMatchRow
end

