-- ==== Sys2Proof/Tests/Slice0.lean ====
section
/-! SUPPORT. The model's own tests. Expected results are those of 95_test_vectors.md and of the rules' own examples: the
words of programs P1, P2 and P3 and of sections 1 and 2. Below them, for every statement that has hypotheses, a witness that
meets them. -/

namespace Sys2Proof.Tests

open Sys2Proof Sys2Proof.Machine

/-! ## Decoding: words written out bit by bit from the bit strings of 30_encoding.md R57 and R58 -/

theorem test_decode_arm_branch_exchange :
    decode ⟨0#1, 0b11100001001011111111111100011110#32⟩ = .armBranchExchange 0xE12FFF1E#32 := by decide
theorem test_decode_arm_block_data_transfer :
    decode ⟨0#1, 0b11101001001011010100000000000000#32⟩ = .armBlockDataTransfer 0xE92D4000#32 := by decide
theorem test_decode_arm_branch :
    decode ⟨0#1, 0b11101010111111111111111111111110#32⟩ = .armBranch 0xEAFFFFFE#32 := by decide
theorem test_decode_arm_software_interrupt :
    decode ⟨0#1, 0b11101111000000000000000000000000#32⟩ = .armSoftwareInterrupt 0xEF000000#32 := by decide
theorem test_decode_arm_undefined :
    decode ⟨0#1, 0b11100111111100000000000011110000#32⟩ = .armUndefined 0xE7F000F0#32 := by decide
theorem test_decode_arm_single_data_transfer :
    decode ⟨0#1, 0b11100101100111110001000000001000#32⟩ = .armSingleDataTransfer 0xE59F1008#32 := by decide
theorem test_decode_arm_single_data_swap :
    decode ⟨0#1, 0b11100001000000010010000010010010#32⟩ = .armSingleDataSwap 0xE1012092#32 := by decide
theorem test_decode_arm_multiply :
    decode ⟨0#1, 0b11100000110000010000001110010010#32⟩ = .armMultiply 0xE0C10392#32 := by decide
theorem test_decode_arm_halfword_transfer_reg :
    decode ⟨0#1, 0b11100001100100010000000010110010#32⟩ = .armHalfwordTransferReg 0xE19100B2#32 := by decide
theorem test_decode_arm_halfword_transfer_imm :
    decode ⟨0#1, 0b11100001110000010010000010110010#32⟩ = .armHalfwordTransferImm 0xE1C120B2#32 := by decide
theorem test_decode_arm_psr_transfer_read :
    decode ⟨0#1, 0b11100001000011110011000000000000#32⟩ = .armPsrTransferRead 0xE10F3000#32 := by decide
theorem test_decode_arm_psr_transfer_write :
    decode ⟨0#1, 0b11100001001010011111000000000011#32⟩ = .armPsrTransferWrite 0xE129F003#32 := by decide
theorem test_decode_arm_data_processing :
    decode ⟨0#1, 0b11100011101000000000000000000101#32⟩ = .armDataProcessing 0xE3A00005#32 := by decide
theorem test_decode_arm_illegal :
    decode ⟨0#1, 0b11101110000000000000000000000000#32⟩ = .armIllegal 0xEE000000#32 := by decide
theorem test_decode_thumb_software_interrupt :
    decode ⟨1#1, 0b00000000000000001101111100000000#32⟩ = .thumbSoftwareInterrupt 0xDF00#16 := by decide
theorem test_decode_thumb_unconditional_branch :
    decode ⟨1#1, 0b00000000000000001110011111111110#32⟩ = .thumbUnconditionalBranch 0xE7FE#16 := by decide
theorem test_decode_thumb_conditional_branch :
    decode ⟨1#1, 0b00000000000000001101000111111101#32⟩ = .thumbConditionalBranch 0xD1FD#16 := by decide
theorem test_decode_thumb_multiple_load_store :
    decode ⟨1#1, 0b00000000000000001100000100000011#32⟩ = .thumbMultipleLoadStore 0xC103#16 := by decide
theorem test_decode_thumb_long_branch_with_link :
    decode ⟨1#1, 0b00000000000000001111100000000000#32⟩ = .thumbLongBranchWithLink 0xF800#16 := by decide
theorem test_decode_thumb_add_offset_to_sp :
    decode ⟨1#1, 0b00000000000000001011000010000001#32⟩ = .thumbAddOffsetToSp 0xB081#16 := by decide
theorem test_decode_thumb_push_pop :
    decode ⟨1#1, 0b00000000000000001011010100000000#32⟩ = .thumbPushPop 0xB500#16 := by decide
theorem test_decode_thumb_load_store_halfword :
    decode ⟨1#1, 0b00000000000000001000000001001000#32⟩ = .thumbLoadStoreHalfword 0x8048#16 := by decide
theorem test_decode_thumb_sp_relative_load_store :
    decode ⟨1#1, 0b00000000000000001001000000000001#32⟩ = .thumbSpRelativeLoadStore 0x9001#16 := by decide
theorem test_decode_thumb_load_address :
    decode ⟨1#1, 0b00000000000000001010100000000001#32⟩ = .thumbLoadAddress 0xA801#16 := by decide
theorem test_decode_thumb_load_store_imm_offset :
    decode ⟨1#1, 0b00000000000000000110100001001000#32⟩ = .thumbLoadStoreImmOffset 0x6848#16 := by decide
theorem test_decode_thumb_load_store_reg_offset :
    decode ⟨1#1, 0b00000000000000000101000010001000#32⟩ = .thumbLoadStoreRegOffset 0x5088#16 := by decide
theorem test_decode_thumb_load_store_sign_extended :
    decode ⟨1#1, 0b00000000000000000101111010001000#32⟩ = .thumbLoadStoreSignExtended 0x5E88#16 := by decide
theorem test_decode_thumb_pc_relative_load :
    decode ⟨1#1, 0b00000000000000000100100000000001#32⟩ = .thumbPcRelativeLoad 0x4801#16 := by decide
theorem test_decode_thumb_hi_reg_op_bx :
    decode ⟨1#1, 0b00000000000000000100011101110000#32⟩ = .thumbHiRegOpBx 0x4770#16 := by decide
theorem test_decode_thumb_alu_operation :
    decode ⟨1#1, 0b00000000000000000100001101001000#32⟩ = .thumbAluOperation 0x4348#16 := by decide
theorem test_decode_thumb_mov_cmp_add_sub_imm :
    decode ⟨1#1, 0b00000000000000000011100000000001#32⟩ = .thumbMovCmpAddSubImm 0x3801#16 := by decide
theorem test_decode_thumb_add_subtract :
    decode ⟨1#1, 0b00000000000000000001100001000000#32⟩ = .thumbAddSubtract 0x1840#16 := by decide
theorem test_decode_thumb_move_shifted_register :
    decode ⟨1#1, 0b00000000000000000000000001000000#32⟩ = .thumbMoveShiftedRegister 0x0040#16 := by decide
theorem test_decode_thumb_illegal :
    decode ⟨1#1, 0b00000000000000001011111000000000#32⟩ = .thumbIllegal 0xBE00#16 := by decide

/-! ## One step from reset: the largest word of each effective set (95_test_vectors.md 2.1 and 2.5) and what it is answered -/

/-- The output after one step that runs a word from reset. -/
def outAfter (nbits w : Nat) : Option Idx :=
  match step (State.reset.withFetchWord nbits w) with
  | .next t => some t.outIdx
  | .fault _ => none
  | .refused _ => none

theorem test_step_arm_branch_exchange : outAfter 32 0xF12FFF1F = some 1#5 := by decide
theorem test_step_arm_block_data_transfer : outAfter 32 0xF9FFFFFF = some 2#5 := by decide
theorem test_step_arm_branch : outAfter 32 0xFBFFFFFF = some 3#5 := by decide
theorem test_step_arm_software_interrupt : outAfter 32 0xFFFFFFFF = some 4#5 := by decide
theorem test_step_arm_undefined : outAfter 32 0xF7FFFFFF = some 5#5 := by decide
theorem test_step_arm_single_data_transfer : outAfter 32 0xF7FFFFEF = some 6#5 := by decide
theorem test_step_arm_single_data_swap : outAfter 32 0xF17FF09F = some 7#5 := by decide
theorem test_step_arm_multiply : outAfter 32 0x00400090 = some 8#5 := by decide
theorem test_step_arm_halfword_transfer_reg : outAfter 32 0xF1BFF0FF = some 9#5 := by decide
theorem test_step_arm_halfword_transfer_imm : outAfter 32 0xF14FFFFF = some 10#5 := by decide
theorem test_step_arm_psr_transfer_read : outAfter 32 0xF14FFFEF = some 11#5 := by decide
theorem test_step_arm_psr_transfer_write : outAfter 32 0xF36FFFFF = some 12#5 := by decide
theorem test_step_arm_data_processing : outAfter 32 0xF3FFFFFF = some 13#5 := by decide
theorem test_step_arm_illegal : outAfter 32 0xFEFFFFFF = some 0#5 := by decide
theorem test_step_thumb_software_interrupt : outAfter 16 0xDFFF = some 1#5 := by decide
theorem test_step_thumb_unconditional_branch : outAfter 16 0xE7FF = some 2#5 := by decide
theorem test_step_thumb_conditional_branch : outAfter 16 0xDEFF = some 3#5 := by decide
theorem test_step_thumb_multiple_load_store : outAfter 16 0xCFFF = some 4#5 := by decide
theorem test_step_thumb_long_branch_with_link : outAfter 16 0xFFFF = some 5#5 := by decide
theorem test_step_thumb_add_offset_to_sp : outAfter 16 0xB0FF = some 6#5 := by decide
theorem test_step_thumb_push_pop : outAfter 16 0xBDFF = some 7#5 := by decide
theorem test_step_thumb_load_store_halfword : outAfter 16 0x8FFF = some 8#5 := by decide
theorem test_step_thumb_sp_relative_load_store : outAfter 16 0x9FFF = some 9#5 := by decide
theorem test_step_thumb_load_address : outAfter 16 0xAFFF = some 10#5 := by decide
theorem test_step_thumb_load_store_imm_offset : outAfter 16 0x7FFF = some 11#5 := by decide
theorem test_step_thumb_load_store_reg_offset : outAfter 16 0x5DFF = some 12#5 := by decide
theorem test_step_thumb_load_store_sign_extended : outAfter 16 0x5FFF = some 13#5 := by decide
theorem test_step_thumb_pc_relative_load : outAfter 16 0x4FFF = some 14#5 := by decide
theorem test_step_thumb_hi_reg_op_bx : outAfter 16 0x47FF = some 15#5 := by decide
theorem test_step_thumb_alu_operation : outAfter 16 0x43FF = some 16#5 := by decide
theorem test_step_thumb_mov_cmp_add_sub_imm : outAfter 16 0x3FFF = some 17#5 := by decide
theorem test_step_thumb_add_subtract : outAfter 16 0x1FFF = some 18#5 := by decide
theorem test_step_thumb_move_shifted_register : outAfter 16 0x17FF = some 19#5 := by decide
theorem test_step_thumb_illegal : outAfter 16 0xEFFF = some 0#5 := by decide

/-! ## WellFormed: an ill-formed term for each check, most of them a word an earlier row takes -/

theorem test_wellFormed_refuses_arm : ([
    .armBranchExchange 0x012FFF00#32,
    .armBlockDataTransfer 0x0A000000#32,
    .armBranch 0x08000000#32,
    .armSoftwareInterrupt 0x0E000000#32,
    .armUndefined 0x06000000#32,
    .armSingleDataTransfer 0xF7FFFFFF#32,
    .armSingleDataSwap 0x00000090#32,
    .armMultiply 0x01000090#32,
    .armHalfwordTransferReg 0x00000090#32,
    .armHalfwordTransferImm 0x00400090#32,
    .armPsrTransferRead 0xF14FFFFF#32,
    .armPsrTransferWrite 0x012FFF10#32,
    .armDataProcessing 0x010F0000#32,
    .armIllegal 0x0F000000#32] : List Instr).map Instr.wellFormed = List.replicate 14 false := by decide

theorem test_wellFormed_refuses_thumb : ([
    .thumbSoftwareInterrupt 0xDE00#16,
    .thumbUnconditionalBranch 0xE800#16,
    .thumbConditionalBranch 0xDF00#16,
    .thumbMultipleLoadStore 0xD000#16,
    .thumbLongBranchWithLink 0xE000#16,
    .thumbAddOffsetToSp 0xB100#16,
    .thumbPushPop 0xB600#16,
    .thumbLoadStoreHalfword 0x9000#16,
    .thumbSpRelativeLoadStore 0x8000#16,
    .thumbLoadAddress 0xB000#16,
    .thumbLoadStoreImmOffset 0x8000#16,
    .thumbLoadStoreRegOffset 0x5200#16,
    .thumbLoadStoreSignExtended 0x5000#16,
    .thumbPcRelativeLoad 0x4400#16,
    .thumbHiRegOpBx 0x4800#16,
    .thumbAluOperation 0x4400#16,
    .thumbMovCmpAddSubImm 0x1800#16,
    .thumbAddSubtract 0x17FF#16,
    .thumbMoveShiftedRegister 0x1800#16,
    .thumbIllegal 0xB000#16] : List Instr).map Instr.wellFormed = List.replicate 20 false := by decide

/-! ## Lists of words of 95_test_vectors.md -/

/-- Section 2.2, the overlap witnesses, and 93_implementation_defined.md I23. -/
theorem test_arm_overlap_witnesses :
    [0x012FFF10#32, 0x06000010#32, 0x01000090#32, 0x01400090#32, 0x010F0090#32,
      0x0120F090#32, 0x00000090#32, 0x00400090#32, 0x014F0090#32, 0x0160F090#32,
      0x010F0000#32, 0x0120F000#32, 0x01300090#32].map (fun w => rowNumber (armRequest w)) = [1, 5, 7, 7, 7, 7, 8, 8, 7, 7, 11, 12, 7] := by decide

/-- Section 2.3, the ARM Illegal words and their neighbours. -/
theorem test_arm_illegal_and_neighbours :
    [0x0C000000#32, 0x0CFFFFFF#32, 0x0D000000#32, 0x0DFFFFFF#32, 0x0E000000#32,
      0x0EFFFFFF#32, 0x0B000000#32, 0x0BFFFFFF#32, 0x0F000000#32, 0x03FFFFFF#32].map (fun w => rowNumber (armRequest w)) = [0, 0, 0, 0, 0, 0, 3, 3, 4, 13] := by decide

/-- Sections 2.8 and 2.9: a Thumb request ignores the upper halfword, and the selector decides the table. -/
theorem test_selector_and_upper_halfword :
    [(1#1, 0xFFFF0000#32), (1#1, 0x0001DF00#32), (1#1, 0xABCD4770#32), (1#1, 0x12345E88#32), (1#1, 0xFFFFB100#32),
      (0#1, 0x0000DF00#32), (0#1, 0xFFFFFFFF#32), (1#1, 0xFFFFFFFF#32), (0#1, 0xE12FFF1E#32), (1#1, 0xE12FFF1E#32)].map
      (fun p => rowNumber ⟨p.1, p.2⟩) = [19, 1, 15, 13, 0, 13, 4, 5, 1, 5] := by decide

/-! ## The driver: E7 to E10 and section 2.10 -/

/-- The record that one run of the driver from reset leaves. -/
def runAfter (argv : List String) : Option (List RunRecord) :=
  match step (State.reset.ran argv) with
  | .next t => some t.runs
  | .fault _ => none
  | .refused _ => none

theorem test_run_thumb : runAfter ["DF00"] = some [⟨["DF00"], ["THUMB: Software interrupt"], [], 0⟩] := by decide
theorem test_run_arm : runAfter ["012FFF10"] = some [⟨["012FFF10"], ["ARM: Branch and exchange"], [], 0⟩] := by decide
theorem test_run_lower_case : runAfter ["be00"] = some [⟨["be00"], ["THUMB: Illegal instruction"], [], 0⟩] := by decide
theorem test_run_arm_illegal : runAfter ["EE000000"] = some [⟨["EE000000"], ["ARM: Illegal instruction"], [], 0⟩] := by decide
theorem test_run_branch_label :
    runAfter ["EAFFFFFE"] = some [⟨["EAFFFFFE"], ["ARM: Branch / branch with link"], [], 0⟩] := by decide
theorem test_run_wrong_length : runAfter ["ABC"] =
    some [⟨["ABC"], [], ["Incorrect instruction format. Expected 32-bit or 16-bit hex value"], 1⟩] := by decide
theorem test_run_prefix_is_a_wrong_length : (runAfter ["0xDF00"]).map (·.map (·.exit)) = some [1] := by decide
theorem test_run_no_argument : runAfter [] = some [⟨[], [], [Config.usageText], 2⟩] := rfl
theorem test_run_non_hex : driverPlan ["DF0G"] = .refuse .hostNonHexArgument := by decide
theorem test_run_two_arguments : driverPlan ["DF00", "0000"] = .refuse .hostManyArguments := by decide

/-! ## Witnesses: a state and operands that meet the hypotheses of a statement, all of them together -/

/-- Reset with a job in front. -/
def waiting (j : Job) : State := { State.reset with jobs := [j] }

theorem witness_StepKeepsOutputAndResponsesRight :
    ∃ s s' : State, s.Inv ∧ step s = .next s' ∧ s'.responses ≠ [] :=
  ⟨waiting (.request .driver ⟨1#1, 0xDF00#32⟩), _, ⟨fun _ => (by decide), fun r hr => (by cases hr)⟩, rfl, (by decide)⟩

theorem witness_IdleStepSettlesOnThePorts : State.reset.jobs = [] := rfl

theorem witness_StepRunsTheDecodedInstruction :
    State.reset.jobs = [] ∧
    (waiting (.request .driver ⟨0#1, 0xE0010190#32⟩)).jobs = [.request .driver ⟨0#1, 0xE0010190#32⟩] ∧
    (waiting (.run ["DF00"])).jobs = [.run ["DF00"]] ∧ driverPlan ["DF00"] = .ask ⟨1#1, 0xDF00#32⟩ :=
  ⟨rfl, rfl, rfl, by decide⟩

theorem witness_DecodeOfEncodeIsTheInstruction :
    (Instr.armHalfwordTransferImm 0x004000B0#32).wellFormed = true ∧
      (Instr.thumbConditionalBranch 0xDEFF#16).wellFormed = true := by decide

theorem witness_EncodeOfDecodeIsTheRequest :
    (armRequest 0xEE000000#32).inIsa = 0#1 ∧ (⟨1#1, 0xFFFFB100#32⟩ : Request).inIsa = 1#1 := ⟨rfl, rfl⟩

theorem witness_ArmRowsOverlapExactlyAsListed :
    rowNumber (armRequest 0xF12FFF1F#32) = 1 ∧ (⟨0x0DB0F000#32, 0x0120F000#32⟩ : Row 32) ∈ armTable[11]? ∧
      (⟨0x0C000000#32, 0x00000000#32⟩ : Row 32) ∈ armTable[12]? ∧ (1 ≤ 12 ∧ 12 < 13 ∧ 13 ≤ 13) := by decide

theorem witness_ThumbRowsOverlapExactlyAsListed :
    bits 0xDFFF#16 15 8 = 0xDF#8 ∧ bits 0x1FFF#16 15 11 = 0b00011#5 ∧ (1 ≤ 18 ∧ 18 < 19 ∧ 19 ≤ 19) := by decide

/-- Orders other than the listed ones: the Thumb rows from the fourth on come first, and the ARM rows 2 to 4. -/
theorem witness_OrdersThatKeepOverlappingPairsAgree :
    ∃ (l : List (Row 16 × Nat)) (a : List (Row 32 × Nat)),
      l.Perm (thumbTable.zipIdx 1) ∧ l ≠ thumbTable.zipIdx 1 ∧
      [(⟨0xFF00#16, 0xDF00#16⟩, 1), (⟨0xF000#16, 0xD000#16⟩, 3)].Sublist l ∧
      [(⟨0xF800#16, 0x1800#16⟩, 18), (⟨0xE000#16, 0x0000#16⟩, 19)].Sublist l ∧
      a.Perm (armTable.zipIdx 1) ∧ a ≠ armTable.zipIdx 1 ∧
      ∀ p ∈ armTable.zipIdx 1, ∀ q ∈ armTable.zipIdx 1, p.2 < q.2 →
        (p.1.pattern ^^^ q.1.pattern) &&& p.1.mask &&& q.1.mask = 0#32 → [p, q].Sublist a :=
  ⟨(thumbTable.zipIdx 1).drop 3 ++ (thumbTable.zipIdx 1).take 3,
    ((armTable.zipIdx 1).drop 1).take 3 ++ (armTable.zipIdx 1).take 1 ++ (armTable.zipIdx 1).drop 4,
    (by decide), (by decide), (by decide), (by decide), (by decide), (by decide), (by decide)⟩

theorem witness_EveryInterleavingGivesEachCallerItsOwnResponses :
    ([(.driver, armRequest 0#32), (.other 1, thumbRequest 0xDF00#16), (.driver, thumbRequest 0#16)] :
      List (Caller × Request)).filter (fun q => q.1 = .driver) =
      [(.driver, armRequest 0#32), (.driver, thumbRequest 0#16)] := by decide

theorem witness_ArmAnswersDependOnBits27To4Only :
    bits 0x012FFF10#32 27 4 = bits 0xF12FFF1F#32 27 4 ∧ (0x012FFF10#32 : ArmWord) ≠ 0xF12FFF1F#32 := by decide

theorem witness_CodesHaveLabelsAndTheRestAreNeverOutput :
    (({ State.reset with outIdx := 14#5 } : State).inIsa = 0#1 ∧ 14 ≤ (14#5).toNat) ∧
      (({ State.reset with inIsa := 1#1, outIdx := 20#5 } : State).inIsa = 1#1 ∧ 20 ≤ (20#5).toNat) := by decide

theorem witness_NothingRaisesAnException :
    step (State.reset.ran ["DF0G"]) = .refused .hostNonHexArgument ∧ (State.reset.ran ["DF0G"]).jobs = [.run ["DF0G"]] :=
  ⟨rfl, rfl⟩

theorem witness_AnUnstableLookIsFreeAndTheOutputSettlesLater :
    (waiting (.unstable .driver ⟨0#1, 0xEF000000#32⟩)).jobs = [.unstable .driver ⟨0#1, 0xEF000000#32⟩] := rfl

theorem witness_InstructionsChangeNothingButOutIdx :
    (∃ t, exec (.armMultiply 0xE0010190#32) State.reset = .next t) ∧
      (Instr.armMultiply 0xE0010190#32).wellFormed = true ∧ (Instr.armMultiply 0x01000090#32).wellFormed = false :=
  ⟨⟨_, rfl⟩, by decide⟩

theorem witness_AWrongLengthIsAFormatError :
    ("".toList.length ≠ 4 ∧ "".toList.length ≠ 8) ∧ ("012345678".toList.length ≠ 4 ∧ "012345678".toList.length ≠ 8) := by
  decide

theorem witness_ASuccessfulRunAsksOnceAndPrintsTheLabel :
    ("df0F".toList.map hexDigit? = ([13, 15, 0, 15] : List Nat).map some ∧ ([13, 15, 0, 15] : List Nat).length = 4) ∧
      ("FFFFFFFF".toList.map hexDigit? = (List.replicate 8 15).map some ∧ (List.replicate 8 15).length = 8) := by decide

/-- Both lengths, each with a word of a row family: `w[27:25] = 101`, and high byte `DF`. -/
theorem witness_ASuccessfulRunPrintsTheTextOfItsCategory :
    ("EAFFFFFE".toList.map hexDigit? = ([14, 10, 15, 15, 15, 15, 15, 14] : List Nat).map some ∧
      bits 0xEAFFFFFE#32 27 25 = 0b101#3) ∧
      ("dfff".toList.map hexDigit? = ([13, 15, 15, 15] : List Nat).map some ∧ bits 0xDFFF#16 15 8 = 0xDF#8) := by decide

theorem witness_TheRefusedRunsAreRefused :
    ("DF0G".toList.length = 4 ∧ 'G' ∈ "DF0G".toList ∧ hexDigit? 'G' = none) ∧
      ("0x0000DF".toList.length = 8 ∧ 'x' ∈ "0x0000DF".toList ∧ hexDigit? 'x' = none) := by decide

/-- Whether a step went on. -/
def goesOn : Host.Outcome State Fault Refusal → Bool
  | .next _ => true
  | .fault _ => false
  | .refused _ => false

theorem next_of_goesOn {o : Host.Outcome State Fault Refusal} (h : goesOn o = true) : ∃ t, o = .next t := by
  cases o with
  | next t => exact ⟨t, rfl⟩
  | fault x => cases h
  | refused x => cases h

theorem witness_TheDriverHasTwoErrorConditions :
    (∃ t, step (State.reset.ran []) = .next t) ∧ (∃ t, step (State.reset.ran ["ABC"]) = .next t) ∧
      (∃ t, step (State.reset.ran ["DF00"]) = .next t) :=
  ⟨next_of_goesOn (by decide), next_of_goesOn (by decide), next_of_goesOn (by decide)⟩

/-- Whatever an unstable look has left on the port, the next stable request is answered as ever. -/
theorem test_unstable_then_stable : ∀ x : Idx,
    (match step { State.reset with outIdx := x, settled := false, jobs := [.request .driver ⟨0#1, 0xEF000000#32⟩] } with
      | .next t => some (t.outIdx, t.settled)
      | .fault _ => none
      | .refused _ => none) = some (4#5, true) := by decide

end Sys2Proof.Tests
end

/-! PROOFS. The statements of 00_scope.md: first match, the frame of an instruction, the bit strings, the table sizes. -/

namespace Sys2Proof

section Tables

variable {n : Nat}

/-- No row matches, row by row. -/
theorem noneHit_iff_forall_mem (table : List (Row n)) (w : BitVec n) :
    noneHit table w = true ↔ ∀ r ∈ table, r.hit w = false := by
  simp [noneHit]

/-- No row before position `k` matches, position by position. -/
theorem noneHit_take_iff (table : List (Row n)) (w : BitVec n) (k : Nat) :
    noneHit (table.take k) w = true ↔ ∀ j, j < k → ∀ r, table[j]? = some r → r.hit w = false := by
  rw [noneHit_iff_forall_mem]
  constructor
  · intro h j hj r hr
    exact h r (List.mem_of_getElem? (i := j) (by rw [List.getElem?_take_of_lt hj, hr]))
  · intro h r hr
    obtain ⟨j, hj⟩ := List.mem_iff_getElem?.1 hr
    rw [List.getElem?_take] at hj
    split at hj
    · exact h j ‹_› r hj
    · cases hj

/-- Row `k + 1` (at position `k`) wins when it matches and no row before it does. -/
theorem rowWins_succ_iff (table : List (Row n)) (w : BitVec n) (k : Nat) :
    rowWins table (k + 1) w = true ↔
      (∃ r, table[k]? = some r ∧ r.hit w = true) ∧ ∀ j, j < k → ∀ r, table[j]? = some r → r.hit w = false := by
  rw [← noneHit_take_iff, rowWins, Nat.add_sub_cancel, Bool.and_eq_true, Option.any_eq_true]

/-- `FirstMatch` tests each row at most once (70_reset_and_hazards.md R195). -/
theorem testsMade_le_length (table : List (Row n)) (w : BitVec n) : testsMade table w ≤ table.length := by
  induction table with
  | nil => exact Nat.le_refl 0
  | cons r rest ih =>
    rw [testsMade, List.length_cons]
    split
    · exact Nat.le_add_left 1 _
    · exact Nat.add_le_add_right ih 1

end Tables

/-- Settles O9: `FirstMatch` gives 0 when the fallback's condition holds and `k + 1` when row `k + 1` wins; both conditions
are then read row by row. -/
theorem firstMatchFindsTheLowestMatchingRow : Obligations.FirstMatchFindsTheLowestMatchingRow := by
  intro n table w
  refine ⟨fun r => r.hit_iff w, ?_, fun k => ?_, testsMade_le_length table w⟩
  · rw [← noneHit_iff, noneHit_iff_forall_mem]
  · rw [← rowWins_iff table w (k + 1) (Nat.succ_pos k), rowWins_succ_iff]

/-- Settles O11: the 13 ARM and the 19 Thumb bit strings compared with their rows, bit by bit. -/
theorem bitStringsSpellMasksAndPatterns : Obligations.BitStringsSpellMasksAndPatterns :=
  ⟨rfl, rfl, by decide, by decide⟩

/-- Settles O13: each list is counted against its parameter. -/
theorem tablesHaveTheParametersSizes : Obligations.TablesHaveTheParametersSizes :=
  ⟨rfl, rfl, rfl, rfl, rfl, rfl⟩

end Sys2Proof

namespace Sys2Proof.Machine

/-- A well-formed instruction drives its code. -/
theorem exec_of_wellFormed {i : Instr} (h : i.wellFormed = true) (s : State) : exec i s = .next (s.drive i.code) := by
  rw [exec_eq, if_pos h]

/-- An instruction that is not well formed leaves the state as it is (log entry 5). -/
theorem exec_of_not_wellFormed {i : Instr} (h : i.wellFormed = false) (s : State) : exec i s = .next s := by
  rw [exec_eq, h, if_neg Bool.false_ne_true]

/-- Settles O32: the next state is `s` with its output driven, or `s` itself. -/
theorem instructionsChangeNothingButOutIdx : Obligations.InstructionsChangeNothingButOutIdx := by
  intro i s t hexec
  cases hwf : i.wellFormed with
  | true =>
    rw [exec_of_wellFormed hwf] at hexec
    obtain rfl : s.drive i.code = t := Host.Outcome.next.inj hexec
    exact ⟨rfl, fun _ => rfl, nofun⟩
  | false =>
    rw [exec_of_not_wellFormed hwf] at hexec
    obtain rfl : s = t := Host.Outcome.next.inj hexec
    exact ⟨rfl, nofun, fun _ => rfl⟩

end Sys2Proof.Machine

/-! PROOFS. The statements of 10_state.md: the bridge from the row numbers to the sequential classifiers, what each kind of
job answers in terms of `Classify`, the invariant, and the two combinational stages. -/

namespace Sys2Proof

section Tables

variable {n : Nat}

/-- `FirstMatch` over no rows. -/
theorem firstMatchFrom_nil (k : Nat) (w : BitVec n) : firstMatchFrom k [] w = 0 := rfl

/-- `FirstMatch` makes the first row's mask test, and goes on with the rest when it fails. -/
theorem firstMatchFrom_cons (k : Nat) (r : Row n) (rest : List (Row n)) (w : BitVec n) :
    firstMatchFrom k (r :: rest) w = if w &&& r.mask = r.pattern then k else firstMatchFrom (k + 1) rest w := by
  simp only [firstMatchFrom, Row.hit_iff]

/-- Numbering the rows from one higher adds one to the number of a match and keeps the 0. -/
theorem firstMatchFrom_succ (table : List (Row n)) (w : BitVec n) (k : Nat) (hk : 0 < k) :
    firstMatchFrom (k + 1) table w = if firstMatchFrom k table w = 0 then 0 else firstMatchFrom k table w + 1 := by
  induction table generalizing k with
  | nil => rfl
  | cons r rest ih =>
    rw [firstMatchFrom_cons, firstMatchFrom_cons]
    split
    · rw [if_neg hk.ne']
    · exact ih (k + 1) k.succ_pos

/-- On the 5 bits of `out_idx` the result of `FirstMatch` over fewer than 32 rows is not cut (10_state.md R30). -/
theorem toNat_ofNat_firstMatch (table : List (Row n)) (hlen : table.length < 32) (w : BitVec n) :
    (BitVec.ofNat 5 (firstMatch table w)).toNat = firstMatch table w := by
  rw [BitVec.toNat_ofNat, Nat.mod_eq_of_lt (Nat.lt_of_le_of_lt (firstMatch_le table w) hlen)]

/-- A row does not match when the masked word differs from its pattern. -/
theorem Row.hit_eq_false_iff (r : Row n) (w : BitVec n) : r.hit w = false ↔ w &&& r.mask ≠ r.pattern := by
  rw [← Bool.not_eq_true, Ne, r.hit_iff]

/-- `out_idx` is 0 when no row matches. -/
theorem ofNat_firstMatch_eq_zero_iff (table : List (Row n)) (hlen : table.length < 32) (w : BitVec n) :
    BitVec.ofNat 5 (firstMatch table w) = 0#5 ↔ ∀ r ∈ table, w &&& r.mask ≠ r.pattern := by
  obtain ⟨-, hzero, -, -⟩ := firstMatchFindsTheLowestMatchingRow n table w
  simp only [← Row.hit_eq_false_iff]
  rw [← hzero, ← BitVec.toNat_inj, toNat_ofNat_firstMatch table hlen]
  rfl

/-- `out_idx` is `k + 1` when the row at position `k` matches and no row before it does. -/
theorem ofNat_firstMatch_eq_succ_iff (table : List (Row n)) (hlen : table.length < 32) (w : BitVec n) (k : Nat) :
    (BitVec.ofNat 5 (firstMatch table w)).toNat = k + 1 ↔ (∃ r, table[k]? = some r ∧ w &&& r.mask = r.pattern) ∧
      ∀ j, j < k → ∀ r, table[j]? = some r → w &&& r.mask ≠ r.pattern := by
  obtain ⟨-, -, hsucc, -⟩ := firstMatchFindsTheLowestMatchingRow n table w
  simp only [← Row.hit_eq_false_iff, ← Row.hit_iff]
  rw [toNat_ofNat_firstMatch table hlen, hsucc]

end Tables

end Sys2Proof

namespace Sys2Proof.Machine

/-! ## The bridge: row numbers and `Classify` -/

/-- The tests of R100 in their order are `FirstMatch` over the ARM table. -/
theorem armClassify_eq_firstMatch (w : ArmWord) : armClassify w = firstMatch armTable w := by
  simp only [armClassify, firstMatch, armTable, firstMatchFrom_cons, firstMatchFrom_nil]

/-- The tests of R120 in their order are `FirstMatch` over the Thumb table. -/
theorem thumbClassify_eq_firstMatch (w : ThumbWord) : thumbClassify w = firstMatch thumbTable w := by
  simp only [thumbClassify, firstMatch, thumbTable, firstMatchFrom_cons, firstMatchFrom_nil]

/-- `Classify` is the row number of the request, on 5 bits. -/
theorem classify_eq (r : Request) : classify r = BitVec.ofNat 5 (rowNumber r) := by
  unfold classify rowNumber
  cases selectIsa r.inIsa with
  | arm => exact congrArg (BitVec.ofNat 5) (armClassify_eq_firstMatch r.inWord)
  | thumb => exact congrArg (BitVec.ofNat 5) (thumbClassify_eq_firstMatch (thumbOperand r.inWord))

/-- `Classify` of an ARM request is its word's first match. -/
theorem classify_arm (w : ArmWord) : classify ⟨0#1, w⟩ = BitVec.ofNat 5 (firstMatch armTable w) :=
  classify_eq ⟨0#1, w⟩

/-- `Classify` of a Thumb word's request is the word's first match. -/
theorem classify_thumbRequest (w : ThumbWord) :
    classify (thumbRequest w) = BitVec.ofNat 5 (firstMatch thumbTable w) := by
  rw [classify_eq, rowNumber_thumbRequest]

/-! ## What each kind of job answers -/

/-- With no job waiting the output settles at `Classify` of the ports (70_reset_and_hazards.md R190). -/
theorem step_idle_classify {s : State} (h : s.jobs = []) : step s = .next (s.drive (classify s.onPorts)) := by
  rw [step_idle h, classify_eq]

/-- The state after a stable request: it stands on the ports, its `Classify` on the output, and its caller has sampled it. -/
def State.served (s : State) (c : Caller) (r : Request) : State := ((s.present r).drive (classify r)).sample c

section Served

variable (s : State) (c : Caller) (r : Request)

@[simp] theorem State.served_inIsa : (s.served c r).inIsa = r.inIsa := rfl
@[simp] theorem State.served_inWord : (s.served c r).inWord = r.inWord := rfl
@[simp] theorem State.served_outIdx : (s.served c r).outIdx = classify r := rfl
@[simp] theorem State.served_settled : (s.served c r).settled = true := rfl
@[simp] theorem State.served_jobs : (s.served c r).jobs = s.jobs := rfl
@[simp] theorem State.served_responses : (s.served c r).responses = s.responses ++ [answer (c, r)] := rfl
@[simp] theorem State.served_runs : (s.served c r).runs = s.runs := rfl
@[simp] theorem State.served_freeCount : (s.served c r).freeCount = s.freeCount := rfl
@[simp] theorem State.onPorts_served : (s.served c r).onPorts = r := rfl

end Served

/-- Serving a request neither reads nor changes the jobs behind it. -/
theorem State.served_withJobs (s : State) (c : Caller) (r : Request) (l : List Job) :
    ({ s with jobs := l } : State).served c r = { s.served c r with jobs := l } := rfl

theorem serveRequest_classify (c : Caller) (r : Request) (s : State) :
    serveRequest c r s = .next (s.served c r) := by
  rw [serveRequest_eq, ← classify_eq, State.served]

/-- A step with a stable request at the head of the jobs serves it, whatever the state. -/
theorem step_asked_served (s : State) (c : Caller) (r : Request) : step (s.asked c r) = .next (s.served c r) := by
  rw [step_asked, serveRequest_classify]

/-- When the driver goes on after the answer, it has logged one line with the label of the output. -/
theorem driverPrint_next {argv : List String} {s t : State} (h : driverPrint argv s = .next t) :
    ∃ l, label? s.isa s.outIdx = some l ∧ t = s.logRun ⟨argv, [printPrefix s.isa ++ l], [], 0⟩ := by
  rw [driverPrint] at h
  cases hl : label? s.isa s.outIdx with
  | none => rw [hl] at h; cases h
  | some l => rw [hl] at h; exact ⟨l, rfl, (Host.Outcome.next.inj h).symm⟩

/-- What a run of the driver can do when it goes on: it logs its record without a request, or its one request is served and
the record of the answer's line is logged. -/
theorem serveRun_next {argv : List String} {s t : State} (h : serveRun argv s = .next t) :
    (∃ d, driverPlan argv = .finish d ∧ t = s.logRun d) ∨
    (∃ r l, driverPlan argv = .ask r ∧ label? (selectIsa r.inIsa) (classify r) = some l ∧
      t = (s.served .driver r).logRun ⟨argv, [printPrefix (selectIsa r.inIsa) ++ l], [], 0⟩) := by
  cases hp : driverPlan argv with
  | finish d =>
    rw [serveRun_finish hp] at h
    exact .inl ⟨d, rfl, (Host.Outcome.next.inj h).symm⟩
  | ask r =>
    rw [serveRun_ask hp, ← classify_eq] at h
    obtain ⟨l, hl, rfl⟩ := driverPrint_next h
    exact .inr ⟨r, l, rfl, hl, rfl⟩
  | refuse x =>
    rw [serveRun_refuse hp] at h
    cases h

/-! ## The invariant: one lemma per operation, then the step -/

namespace State.Inv

variable {s : State}

/-- The invariant does not read the jobs. -/
theorem withJobs (h : s.Inv) (l : List Job) : ({ s with jobs := l } : State).Inv := h

/-- Presenting a request unsettles the output, of which then nothing is claimed. -/
theorem present (h : s.Inv) (r : Request) : (s.present r).Inv := ⟨nofun, h.2⟩

theorem unsettle (h : s.Inv) : s.unsettle.Inv := ⟨nofun, h.2⟩

/-- Settling at `Classify` of the ports makes the output right. -/
theorem drive_classify (h : s.Inv) : (s.drive (classify s.onPorts)).Inv := ⟨fun _ => rfl, h.2⟩

/-- A caller that samples a right output gets a right response. -/
theorem sample (h : s.Inv) (c : Caller) : (s.sample c).Inv := by
  obtain ⟨hout, hresp⟩ := h
  refine ⟨hout, fun r hr => ?_⟩
  rw [State.sample_responses, List.mem_append, List.mem_singleton] at hr
  obtain hold | rfl := hr
  · exact hresp r hold
  · exact hout

theorem logRun (h : s.Inv) (d : RunRecord) : (s.logRun d).Inv := h

theorem served (h : s.Inv) (c : Caller) (r : Request) : (s.served c r).Inv :=
  (h.present r).drive_classify.sample c

end State.Inv

/-- Serving a job of any kind keeps the invariant. -/
theorem serve_keeps_inv {j : Job} {s t : State} (hs : s.Inv) (h : serve j s = .next t) : t.Inv := by
  cases j with
  | request c r =>
    obtain rfl := Host.Outcome.next.inj ((serveRequest_classify c r s).symm.trans h)
    exact hs.served c r
  | unstable c r =>
    obtain rfl := Host.Outcome.next.inj h
    exact (hs.present r).unsettle.sample c
  | run argv =>
    obtain ⟨d, -, rfl⟩ | ⟨r, l, -, -, rfl⟩ := serveRun_next h
    · exact hs.logRun d
    · exact (hs.served .driver r).logRun _

/-- Settles O3: by the job at the head of the list; an idle step settles the output at `Classify` of the ports, and every
job keeps the invariant. -/
theorem stepKeepsOutputAndResponsesRight : Obligations.StepKeepsOutputAndResponsesRight := by
  intro s s' hs hstep
  cases hjobs : s.jobs with
  | nil =>
    obtain rfl := Host.Outcome.next.inj ((step_idle_classify hjobs).symm.trans hstep)
    exact hs.drive_classify
  | cons j rest =>
    rw [step_job hjobs] at hstep
    exact serve_keeps_inv (hs.withJobs rest) hstep

/-- Settles O2: no response is logged, and 13 is `Classify` of an ARM request for the zero word. -/
theorem resetMeetsTheInvariant : Obligations.ResetMeetsTheInvariant :=
  ⟨fun _ => by decide, nofun⟩

/-! ## The two combinational stages (10_state.md R31, R32) -/

theorem priorityEncode_true (m : List Bool) : priorityEncode (true :: m) = 1 := rfl

/-- An unset first bit moves the number of a set bit up by one and keeps the 0. -/
theorem priorityEncode_false (m : List Bool) :
    priorityEncode (false :: m) = if priorityEncode m = 0 then 0 else priorityEncode m + 1 := rfl

/-- Stage 2 gives 0 when no bit is set. -/
theorem priorityEncode_eq_zero_iff (m : List Bool) : priorityEncode m = 0 ↔ ∀ b ∈ m, b = false := by
  induction m with
  | nil => exact iff_of_true rfl nofun
  | cons b rest ih =>
    rw [List.forall_mem_cons, ← ih]
    cases b with
    | true => simp [priorityEncode_true]
    | false => simp [priorityEncode_false]

/-- Stage 2 gives `k + 1` when the lowest set bit is at position `k`. -/
theorem priorityEncode_eq_succ_iff (m : List Bool) (k : Nat) :
    priorityEncode m = k + 1 ↔ m[k]? = some true ∧ ∀ j, j < k → m[j]? ≠ some true := by
  induction m generalizing k with
  | nil => simp [priorityEncode]
  | cons b rest ih =>
    cases b with
    | true =>
      cases k with
      | zero => exact iff_of_true rfl ⟨rfl, nofun⟩
      | succ k => exact iff_of_false nofun fun h => h.2 0 k.succ_pos rfl
    | false =>
      rw [priorityEncode_false]
      cases k with
      | zero => exact iff_of_false (by split <;> omega) nofun
      | succ k =>
        have hshift : (if priorityEncode rest = 0 then 0 else priorityEncode rest + 1) = k + 1 + 1 ↔
            priorityEncode rest = k + 1 := by
          split <;> omega
        rw [hshift, ih, Nat.forall_lt_succ_left]
        simp

/-- The priority encoder over the match bits of a table computes `FirstMatch`. -/
theorem priorityEncode_map_hit {n : Nat} (table : List (Row n)) (w : BitVec n) :
    priorityEncode (table.map fun r => r.hit w) = firstMatch table w := by
  induction table with
  | nil => rfl
  | cons r rest ih =>
    rw [List.map_cons, firstMatch, firstMatchFrom]
    cases r.hit w with
    | true => rfl
    | false => rw [priorityEncode_false, ih, if_neg Bool.false_ne_true, firstMatchFrom_succ rest w 1 Nat.one_pos]; rfl

/-- The two stages, one after the other, are `Classify`. -/
theorem circuitIdx_eq_classify (r : Request) : circuitIdx r = classify r := by
  rw [classify_eq, circuitIdx]
  congr 1
  unfold matchBits rowNumber
  cases selectIsa r.inIsa with
  | arm => exact priorityEncode_map_hit armTable r.inWord
  | thumb => exact priorityEncode_map_hit thumbTable (thumbOperand r.inWord)

/-- Settles O18: the match bits are the mask tests, the encoder is characterised for every match vector, and over a table's
match bits it is `FirstMatch`, hence `Classify`. -/
theorem matchBitsAndPriorityEncoderGiveTheAnswer : Obligations.MatchBitsAndPriorityEncoderGiveTheAnswer :=
  ⟨fun _ => rfl, fun _ => rfl, fun m => ⟨priorityEncode_eq_zero_iff m, priorityEncode_eq_succ_iff m⟩,
    fun s c r => ⟨s.served c r, step_asked_served s c r, (circuitIdx_eq_classify r).symm⟩⟩

/-! ## Answers to requests, one and many -/

/-- A list of requests is answered by the list of their answers, from every state: each is served, and the rest goes on from
the state that leaves. -/
theorem run_requests (qs : List (Caller × Request)) (s : State) :
    ∃ t, core.run qs.length { s with jobs := qs.map fun q => .request q.1 q.2 } = .next t ∧
      t.jobs = [] ∧ t.responses = s.responses ++ qs.map answer := by
  induction qs generalizing s with
  | nil => exact ⟨_, rfl, rfl, (List.append_nil _).symm⟩
  | cons q qs ih =>
    obtain ⟨t, hrun, hjobs, hresp⟩ := ih (s.served q.1 q.2)
    refine ⟨t, ?_, hjobs, ?_⟩
    · rw [← State.served_withJobs] at hrun
      exact (run_succ (step_asked_served { s with jobs := qs.map fun q => .request q.1 q.2 } q.1 q.2) _).trans hrun
    · rw [hresp, State.served_responses, List.append_assoc, List.map_cons, List.singleton_append]

/-- Settles O19: `Classify` is the selected sequential classifier by its definition, and the sequence is `run_requests`. -/
theorem aSequenceOfRequestsIsAnsweredByClassify : Obligations.ASequenceOfRequestsIsAnsweredByClassify :=
  ⟨fun _ => ⟨rfl, rfl⟩, fun s qs => run_requests qs s⟩

/-- Settles O21: both outputs are `Classify` of the request. -/
theorem sameInputsSameOutputWhateverTheHistory : Obligations.SameInputsSameOutputWhateverTheHistory :=
  fun s s' c c' r => ⟨s.served c r, s'.served c' r, step_asked_served s c r, step_asked_served s' c' r, rfl⟩

/-- Settles O26: the output is `Classify` of the request, which is the first match of its word on 5 bits. -/
theorem outIdxNamesTheFirstMatchingRow : Obligations.OutIdxNamesTheFirstMatchingRow := by
  refine ⟨fun s c w => ⟨_, step_asked_served s c ⟨0#1, w⟩, ?_⟩,
    fun s c w => ⟨_, step_asked_served s c (thumbRequest w), ?_⟩⟩
  · rw [State.served_outIdx, classify_arm]
    exact ⟨ofNat_firstMatch_eq_zero_iff armTable (by decide) w,
      fun k _ => ofNat_firstMatch_eq_succ_iff armTable (by decide) w k⟩
  · rw [State.served_outIdx, classify_thumbRequest]
    exact ⟨ofNat_firstMatch_eq_zero_iff thumbTable (by decide) w,
      fun k _ => ofNat_firstMatch_eq_succ_iff thumbTable (by decide) w k⟩

/-- Settles O5: each clause is the job at the head of the list, served; the decoder's instruction is well formed because its
row is the first match. -/
theorem stepRunsTheDecodedInstruction : Obligations.StepRunsTheDecodedInstruction := by
  refine ⟨fun s hjobs => ?_, fun s c r rest hjobs => step_job hjobs, fun s w => ⟨_, rfl, rfl⟩,
    fun s w => ⟨_, rfl, rfl⟩, fun s argv r rest hjobs hplan => ?_, decode_wellFormed⟩
  · rw [step, hjobs]
    rfl
  · rw [step_job hjobs, serve, serveRun, hplan]
    rfl

end Sys2Proof.Machine

/-! PROOFS. The statements of 20_memory.md: what one caller gets out of an interleaved run. -/

namespace Sys2Proof.Machine

/-- A caller's responses among the answers to requests of several callers are the answers to its own requests. -/
theorem filter_caller_map_answer (qs : List (Caller × Request)) (c : Caller) :
    (qs.map answer).filter (fun r => r.caller = c) = (qs.filter fun q => q.1 = c).map answer := by
  rw [List.filter_map]
  rfl

/-- Settles O20: the interleaved run and the caller's own run each log the list of answers to their requests, which keeps no
trace of the state they start in; `filter_caller_map_answer` relates the two lists. -/
theorem everyInterleavingGivesEachCallerItsOwnResponses :
    Obligations.EveryInterleavingGivesEachCallerItsOwnResponses := by
  rintro s s' qs _ c rfl
  obtain ⟨t, hrun, -, hresp⟩ := run_requests qs { s with responses := [] }
  obtain ⟨t', hrun', -, hresp'⟩ := run_requests (qs.filter fun q => q.1 = c) { s' with responses := [] }
  refine ⟨t, t', hrun, hrun', ?_⟩
  rw [hresp, hresp', List.nil_append, List.nil_append, filter_caller_map_answer]

end Sys2Proof.Machine

/-! PROOFS. The statements of 30_encoding.md: the decoder against the encoder; an algebra of rows (meet, cover, field rows),
with which overlaps, field forms and the sizes of the effective sets are computed from the tables; the bits an answer depends
on; the Illegal words; the output codes. -/

namespace Sys2Proof

/-! ## Decoder and encoder -/

/-- Every instruction is the reading of its word as some row of its table, the fallback being row 0. -/
theorem Instr.exists_reading (i : Instr) :
    (∃ k w, k ≤ 13 ∧ i = armInstr k w) ∨ (∃ k w, k ≤ 19 ∧ i = thumbInstr k w) := by
  cases i with
  | armIllegal w => exact .inl ⟨0, w, by decide, rfl⟩
  | armBranchExchange w => exact .inl ⟨1, w, by decide, rfl⟩
  | armBlockDataTransfer w => exact .inl ⟨2, w, by decide, rfl⟩
  | armBranch w => exact .inl ⟨3, w, by decide, rfl⟩
  | armSoftwareInterrupt w => exact .inl ⟨4, w, by decide, rfl⟩
  | armUndefined w => exact .inl ⟨5, w, by decide, rfl⟩
  | armSingleDataTransfer w => exact .inl ⟨6, w, by decide, rfl⟩
  | armSingleDataSwap w => exact .inl ⟨7, w, by decide, rfl⟩
  | armMultiply w => exact .inl ⟨8, w, by decide, rfl⟩
  | armHalfwordTransferReg w => exact .inl ⟨9, w, by decide, rfl⟩
  | armHalfwordTransferImm w => exact .inl ⟨10, w, by decide, rfl⟩
  | armPsrTransferRead w => exact .inl ⟨11, w, by decide, rfl⟩
  | armPsrTransferWrite w => exact .inl ⟨12, w, by decide, rfl⟩
  | armDataProcessing w => exact .inl ⟨13, w, by decide, rfl⟩
  | thumbIllegal w => exact .inr ⟨0, w, by decide, rfl⟩
  | thumbSoftwareInterrupt w => exact .inr ⟨1, w, by decide, rfl⟩
  | thumbUnconditionalBranch w => exact .inr ⟨2, w, by decide, rfl⟩
  | thumbConditionalBranch w => exact .inr ⟨3, w, by decide, rfl⟩
  | thumbMultipleLoadStore w => exact .inr ⟨4, w, by decide, rfl⟩
  | thumbLongBranchWithLink w => exact .inr ⟨5, w, by decide, rfl⟩
  | thumbAddOffsetToSp w => exact .inr ⟨6, w, by decide, rfl⟩
  | thumbPushPop w => exact .inr ⟨7, w, by decide, rfl⟩
  | thumbLoadStoreHalfword w => exact .inr ⟨8, w, by decide, rfl⟩
  | thumbSpRelativeLoadStore w => exact .inr ⟨9, w, by decide, rfl⟩
  | thumbLoadAddress w => exact .inr ⟨10, w, by decide, rfl⟩
  | thumbLoadStoreImmOffset w => exact .inr ⟨11, w, by decide, rfl⟩
  | thumbLoadStoreRegOffset w => exact .inr ⟨12, w, by decide, rfl⟩
  | thumbLoadStoreSignExtended w => exact .inr ⟨13, w, by decide, rfl⟩
  | thumbPcRelativeLoad w => exact .inr ⟨14, w, by decide, rfl⟩
  | thumbHiRegOpBx w => exact .inr ⟨15, w, by decide, rfl⟩
  | thumbAluOperation w => exact .inr ⟨16, w, by decide, rfl⟩
  | thumbMovCmpAddSubImm w => exact .inr ⟨17, w, by decide, rfl⟩
  | thumbAddSubtract w => exact .inr ⟨18, w, by decide, rfl⟩
  | thumbMoveShiftedRegister w => exact .inr ⟨19, w, by decide, rfl⟩

/-- An ARM reading is presented as its word. -/
@[simp] theorem encode_armInstr (k : Nat) (w : ArmWord) : encode (armInstr k w) = armRequest w := by
  unfold armInstr
  split <;> rfl

/-- A Thumb reading is presented as its halfword. -/
@[simp] theorem encode_thumbInstr (k : Nat) (w : ThumbWord) : encode (thumbInstr k w) = thumbRequest w := by
  unfold thumbInstr
  split <;> rfl

/-- An ARM word lies in the effective set of the row it is read as exactly when `FirstMatch` gives that row. -/
theorem armInstr_wellFormed_iff {k : Nat} (hk : k ≤ 13) (w : ArmWord) :
    (armInstr k w).wellFormed = true ↔ firstMatch armTable w = k := by
  interval_cases k
  · exact noneHit_iff armTable w
  all_goals exact rowWins_iff armTable w _ (by decide)

/-- A halfword lies in the effective set of the row it is read as exactly when `FirstMatch` gives that row. -/
theorem thumbInstr_wellFormed_iff {k : Nat} (hk : k ≤ 19) (w : ThumbWord) :
    (thumbInstr k w).wellFormed = true ↔ firstMatch thumbTable w = k := by
  interval_cases k
  · exact noneHit_iff thumbTable w
  all_goals exact rowWins_iff thumbTable w _ (by decide)

/-- Settles O6: an instruction is the reading of its word as some row, it is well formed exactly when `FirstMatch` gives
that row, and the decoder reads the word as the row `FirstMatch` gives. -/
theorem decodeOfEncodeIsTheInstruction : Obligations.DecodeOfEncodeIsTheInstruction := by
  intro i hwf
  obtain ⟨k, w, hk, rfl⟩ | ⟨k, w, hk, rfl⟩ := i.exists_reading
  · rw [encode_armInstr, decode_arm, (armInstr_wellFormed_iff hk w).1 hwf]
  · rw [encode_thumbInstr, decode_thumb, (thumbInstr_wellFormed_iff hk w).1 hwf]

/-- Cutting a word to its halfword and presenting that clears the upper halfword (10_state.md R29). -/
theorem setWidth_thumbOperand (w : ArmWord) : (thumbOperand w).setWidth 32 = w &&& 0x0000FFFF#32 := by
  apply BitVec.eq_of_toNat_eq
  have hmask : (0x0000FFFF#32).toNat = 2 ^ 16 - 1 := rfl
  rw [BitVec.toNat_and, hmask, Nat.and_two_pow_sub_one_eq_mod, BitVec.toNat_setWidth, thumbOperand, BitVec.toNat_setWidth]
  omega

/-- Settles O7: the decoder keeps the word (ARM) or its low halfword (Thumb) as the operand, and that is all the encoder
presents. -/
theorem encodeOfDecodeIsTheRequest : Obligations.EncodeOfDecodeIsTheRequest := by
  rintro ⟨isa, w⟩
  refine ⟨?_, ?_⟩
  · rintro rfl
    exact encode_armInstr _ w
  · rintro rfl
    rw [← setWidth_thumbOperand]
    exact encode_thumbInstr _ (thumbOperand w)

/-- Settles O8: `FirstMatch` run on each of the nine words. -/
theorem wordsWrittenFromTheBitStringsDecode : Obligations.WordsWrittenFromTheBitStringsDecode := by
  refine ⟨?_, ?_, ?_, ?_, ?_, ?_, ?_, ?_, ?_⟩ <;> decide

/-! ## An algebra of rows -/

section Rows

variable {n : Nat}

/-- The pattern has no 1 outside the mask (30_encoding.md R56). -/
abbrev Row.Tidy (r : Row n) : Prop := r.pattern &&& ~~~r.mask = 0#n

/-- Two rows ask the same of the bits both test (30_encoding.md R62). -/
abbrev Row.Agree (a b : Row n) : Prop := (a.pattern ^^^ b.pattern) &&& a.mask &&& b.mask = 0#n

/-- Row `b` tests no bit that `a` does not test, and asks the same of it. -/
abbrev Row.Covers (b a : Row n) : Prop := a.mask &&& b.mask = b.mask ∧ a.pattern &&& b.mask = b.pattern

/-- The row that asks what `a` asks and what `b` asks. -/
def Row.meet (a b : Row n) : Row n := ⟨a.mask ||| b.mask, a.pattern ||| b.pattern⟩

/-- A row is tidy when it asks for a 1 only at bits it tests. -/
theorem Row.tidy_iff_bits (r : Row n) :
    r.Tidy ↔ ∀ i, r.pattern.getLsbD i = true → r.mask.getLsbD i = true := by
  rw [Row.Tidy, BitVec.eq_of_getLsbD_eq_iff]
  refine forall_congr' fun i => ?_
  by_cases hi : i < n
  · simp [hi]
  · simp [hi, BitVec.getLsbD_of_ge _ i (Nat.le_of_not_lt hi)]

/-- Two rows agree when they ask the same of each bit both test. -/
theorem Row.agree_iff_bits (a b : Row n) :
    a.Agree b ↔ ∀ i, a.mask.getLsbD i = true → b.mask.getLsbD i = true → a.pattern.getLsbD i = b.pattern.getLsbD i := by
  rw [Row.Agree, BitVec.eq_of_getLsbD_eq_iff]
  refine forall_congr' fun i => ?_
  by_cases hi : i < n
  · simp only [BitVec.getLsbD_and, BitVec.getLsbD_xor, BitVec.getLsbD_zero]
    grind
  · simp [hi, BitVec.getLsbD_of_ge _ i (Nat.le_of_not_lt hi)]

/-- A tidy row matches its own pattern. -/
theorem Row.hit_pattern {r : Row n} (hr : r.Tidy) : r.hit r.pattern = true :=
  (r.hit_iff_bits r.pattern hr).2 fun _ _ => rfl

/-- A row that covers another matches all its words. -/
theorem Row.Covers.hit {a b : Row n} (h : b.Covers a) {w : BitVec n} (ha : a.hit w = true) : b.hit w = true := by
  obtain ⟨hmask, hpattern⟩ := h
  rw [Row.hit_iff] at ha ⊢
  rw [← hmask, ← BitVec.and_assoc, ha, hpattern]

theorem Row.Tidy.meet {a b : Row n} (ha : a.Tidy) (hb : b.Tidy) : (a.meet b).Tidy := by
  rw [Row.tidy_iff_bits] at *
  intro i
  simp only [Row.meet, BitVec.getLsbD_or, Bool.or_eq_true]
  exact Or.imp (ha i) (hb i)

/-- What two rows ask of one bit, when each asks for a 1 only where it tests. -/
theorem meet_bit : ∀ ma pa mb pb w : Bool, (pa = true → ma = true) → (pb = true → mb = true) →
    (((ma = true → w = pa) ∧ (mb = true → w = pb)) ↔
      (ma = true → mb = true → pa = pb) ∧ ((ma || mb) = true → w = (pa || pb))) := by decide

/-- A word matches both of two rows exactly when they agree and it matches their meet. -/
theorem Row.hit_and_hit_iff {a b : Row n} (ha : a.Tidy) (hb : b.Tidy) (w : BitVec n) :
    (a.hit w = true ∧ b.hit w = true) ↔ a.Agree b ∧ (a.meet b).hit w = true := by
  rw [a.hit_iff_bits w ha, b.hit_iff_bits w hb, (a.meet b).hit_iff_bits w (ha.meet hb), Row.agree_iff_bits,
    ← forall_and, ← forall_and]
  refine forall_congr' fun i => ?_
  simp only [Row.meet, BitVec.getLsbD_or]
  exact meet_bit _ _ _ _ _ (a.tidy_iff_bits.1 ha i) (b.tidy_iff_bits.1 hb i)

/-- Two rows can match one word exactly when they agree (30_encoding.md R62); the meet's pattern is such a word. -/
theorem Row.exists_hit_and_hit_iff {a b : Row n} (ha : a.Tidy) (hb : b.Tidy) :
    (∃ w, a.hit w = true ∧ b.hit w = true) ↔ a.Agree b := by
  simp only [Row.hit_and_hit_iff ha hb]
  exact ⟨fun ⟨_, h, _⟩ => h, fun h => ⟨_, h, Row.hit_pattern (ha.meet hb)⟩⟩

/-- The meet of two rows that agree matches what both match. -/
theorem Row.hit_meet {a b : Row n} (ha : a.Tidy) (hb : b.Tidy) (h : a.Agree b) (w : BitVec n) :
    (a.meet b).hit w = (a.hit w && b.hit w) := by
  rw [Bool.eq_iff_iff, Bool.and_eq_true, Row.hit_and_hit_iff ha hb, and_iff_right h]

/-- Whether the rows at two positions of a table agree. -/
def rowsAgree (table : List (Row n)) (i j : Nat) : Bool :=
  table[i]?.any fun a => table[j]?.any fun b => decide (a.Agree b)

/-- The rows at two positions of a table can match one word exactly when they agree. -/
theorem exists_hit_iff_rowsAgree {table : List (Row n)} (htidy : ∀ r ∈ table, r.Tidy) (i j : Nat) :
    (∃ a b w, table[i]? = some a ∧ table[j]? = some b ∧ a.hit w = true ∧ b.hit w = true) ↔
      rowsAgree table i j = true := by
  simp only [rowsAgree, Option.any_eq_true, decide_eq_true_eq]
  constructor
  · rintro ⟨a, b, w, hi, hj, hw⟩
    exact ⟨a, hi, b, hj, (Row.exists_hit_and_hit_iff (htidy a (List.mem_of_getElem? hi))
      (htidy b (List.mem_of_getElem? hj))).1 ⟨w, hw⟩⟩
  · rintro ⟨a, hi, b, hj, h⟩
    obtain ⟨w, hw⟩ := (Row.exists_hit_and_hit_iff (htidy a (List.mem_of_getElem? hi))
      (htidy b (List.mem_of_getElem? hj))).2 h
    exact ⟨a, b, w, hi, hj, hw⟩

end Rows

theorem armTable_tidy : ∀ r ∈ armTable, r.Tidy := by decide

theorem thumbTable_tidy : ∀ r ∈ thumbTable, r.Tidy := by decide

/-- Settles O10: the patterns stay inside the masks, row by row; then a match compares the bits of the mask. -/
theorem rowsTestTheBitsOfTheirMask : Obligations.RowsTestTheBitsOfTheirMask :=
  ⟨fun r hr => ⟨armTable_tidy r hr, Row.hit_pattern (armTable_tidy r hr), fun w => r.hit_iff_bits w (armTable_tidy r hr)⟩,
    fun r hr =>
      ⟨thumbTable_tidy r hr, Row.hit_pattern (thumbTable_tidy r hr), fun w => r.hit_iff_bits w (thumbTable_tidy r hr)⟩⟩

/-! ## Overlaps (30_encoding.md R62, R63) -/

/-- `FirstMatch` gives 1 only for words that the first row matches. -/
theorem hit_of_firstMatch_eq_one {n : Nat} {r : Row n} {rest : List (Row n)} {w : BitVec n}
    (h : firstMatch (r :: rest) w = 1) : r.hit w = true := by
  obtain ⟨-, -, hsucc, -⟩ := firstMatchFindsTheLowestMatchingRow n (r :: rest) w
  obtain ⟨⟨_, hr, hhit⟩, -⟩ := (hsucc 0).1 h
  exact Option.some.inj hr ▸ hhit

/-- The ARM pairs of R62: row `i + 1` stands at position `i`. -/
theorem rowsAgree_armTable : ∀ j < 13, ∀ i < j, (rowsAgree armTable i j = true ↔
    (i + 1, j + 1) ∈ [(1, 12), (1, 13), (5, 6), (7, 9), (7, 10), (7, 11), (7, 12), (7, 13), (8, 9), (8, 10), (8, 13),
      (9, 11), (9, 12), (9, 13), (10, 11), (10, 12), (10, 13), (11, 13), (12, 13)]) := by decide

/-- The Thumb pairs of R63: row `i + 1` stands at position `i`. -/
theorem rowsAgree_thumbTable : ∀ j < 19, ∀ i < j,
    (rowsAgree thumbTable i j = true ↔ (i + 1, j + 1) ∈ [(1, 3), (18, 19)]) := by decide

/-- Settles O14: agreement decides an overlap, so the pairs are compared by evaluating it; rows 12 and 13 cover row 1. -/
theorem armRowsOverlapExactlyAsListed : Obligations.ArmRowsOverlapExactlyAsListed := by
  refine ⟨fun a ha b hb => Row.exists_hit_and_hit_iff (armTable_tidy a ha) (armTable_tidy b hb),
    fun i j hi hij hj => ?_, by decide, by decide, fun w hw r hr => ?_⟩
  · rw [exists_hit_iff_rowsAgree armTable_tidy, rowsAgree_armTable (j - 1) (by omega) (i - 1) (by omega),
      Nat.sub_add_cancel hi, Nat.sub_add_cancel (by omega)]
  · rw [rowNumber_armRequest] at hw
    have hfirst : (⟨0x0FFFFFF0#32, 0x012FFF10#32⟩ : Row 32).hit w = true := hit_of_firstMatch_eq_one hw
    have hcovers : r.Covers ⟨0x0FFFFFF0#32, 0x012FFF10#32⟩ := by
      obtain hr | hr := hr <;> obtain rfl := Option.some.inj hr <;> decide
    exact hcovers.hit hfirst

/-! ## Fields as rows -/

section Fields

variable {n : Nat}

/-- The mask of the bits `hi:lo`. -/
def fieldMask (n hi lo : Nat) : BitVec n := (BitVec.allOnes (hi - lo + 1)).setWidth n <<< lo

/-- The value `v` at the bits from `lo` on. -/
def fieldAt (n lo : Nat) {m : Nat} (v : BitVec m) : BitVec n := v.setWidth n <<< lo

/-- The row that tests the field `hi:lo` against `v`. -/
def fieldRow (n hi lo : Nat) (v : BitVec (hi - lo + 1)) : Row n := ⟨fieldMask n hi lo, fieldAt n lo v⟩

/-- Masking a word with a field leaves the field's value at its place. -/
theorem and_fieldMask (w : BitVec n) (hi lo : Nat) : w &&& fieldMask n hi lo = fieldAt n lo (bits w hi lo) := by
  apply BitVec.eq_of_getLsbD_eq
  intro i _
  simp only [fieldMask, fieldAt, bits, BitVec.getLsbD_and, BitVec.getLsbD_shiftLeft, BitVec.getLsbD_setWidth,
    BitVec.getLsbD_allOnes, BitVec.getLsbD_extractLsb]
  grind

/-- A value that fits at its place can be read back from it. -/
theorem fieldAt_inj {m lo : Nat} (h : lo + m ≤ n) {u v : BitVec m} : fieldAt n lo u = fieldAt n lo v ↔ u = v := by
  refine ⟨fun huv => BitVec.eq_of_getLsbD_eq fun i hi => ?_, congrArg _⟩
  have hbit := congrArg (fun x => x.getLsbD (lo + i)) huv
  simpa [fieldAt, show lo + i < n by omega, show i < n by omega] using hbit

/-- A field's row matches the words with that field's value. -/
theorem hit_fieldRow {hi lo : Nat} (h : lo + (hi - lo + 1) ≤ n) (v : BitVec (hi - lo + 1)) (w : BitVec n) :
    (fieldRow n hi lo v).hit w = decide (bits w hi lo = v) := by
  rw [Bool.eq_iff_iff, Row.hit_iff, decide_eq_true_eq, ← fieldAt_inj h, ← and_fieldMask]
  rfl

end Fields

/-- The ARM rows are the rows of their field forms (30_encoding.md R57). -/
theorem armTable_eq_fields : armTable = [
    fieldRow 32 27 4 0x012FFF1#24,
    fieldRow 32 27 25 0b100#3,
    fieldRow 32 27 25 0b101#3,
    fieldRow 32 27 24 0b1111#4,
    (fieldRow 32 27 25 0b011#3).meet (fieldRow 32 4 4 1#1),
    fieldRow 32 27 26 0b01#2,
    (fieldRow 32 27 23 0b00010#5).meet (fieldRow 32 11 4 0x09#8),
    (fieldRow 32 27 24 0b0000#4).meet (fieldRow 32 7 4 0b1001#4),
    (fieldRow 32 27 25 0b000#3).meet ((fieldRow 32 22 22 0#1).meet ((fieldRow 32 11 8 0b0000#4).meet
      ((fieldRow 32 7 7 1#1).meet (fieldRow 32 4 4 1#1)))),
    (fieldRow 32 27 25 0b000#3).meet ((fieldRow 32 22 22 1#1).meet ((fieldRow 32 7 7 1#1).meet (fieldRow 32 4 4 1#1))),
    (fieldRow 32 27 23 0b00010#5).meet (fieldRow 32 21 16 0b001111#6),
    (fieldRow 32 27 26 0b00#2).meet ((fieldRow 32 24 24 1#1).meet ((fieldRow 32 23 23 0#1).meet
      ((fieldRow 32 21 21 1#1).meet ((fieldRow 32 20 20 0#1).meet (fieldRow 32 15 12 0b1111#4))))),
    fieldRow 32 27 26 0b00#2] := by decide

/-- Settles O12: each row is the meet of its fields' rows, and a meet matches what its parts match. -/
theorem armRowsFixTheFieldsListed : Obligations.ArmRowsFixTheFieldsListed := by
  intro w
  rw [armTable_eq_fields]
  simp (disch := decide) only [List.map_cons, List.map_nil, Row.hit_meet, hit_fieldRow, Bool.decide_and]

/-! ## The bits an answer depends on -/

section Dependence

variable {n : Nat} {table : List (Row n)} {m : BitVec n}

/-- `FirstMatch` does not see the bits outside a mask that contains every row's. -/
theorem firstMatch_and (hm : ∀ r ∈ table, m &&& r.mask = r.mask) (w : BitVec n) :
    firstMatch table (w &&& m) = firstMatch table w := by
  unfold firstMatch
  generalize 1 = k
  induction table generalizing k with
  | nil => rfl
  | cons r rest ih =>
    rw [List.forall_mem_cons] at hm
    rw [firstMatchFrom_cons, firstMatchFrom_cons, BitVec.and_assoc, hm.1, ih hm.2]

/-- `FirstMatch` over rows that test no bit outside `hi:lo` is a function of that field. -/
theorem firstMatch_eq_fieldAt {hi lo : Nat} (hm : ∀ r ∈ table, fieldMask n hi lo &&& r.mask = r.mask) (w : BitVec n) :
    firstMatch table w = firstMatch table (fieldAt n lo (bits w hi lo)) := by
  rw [← and_fieldMask, firstMatch_and hm]

end Dependence

/-- An ARM row number is a function of bits 27:4 (30_encoding.md R59). -/
theorem armFirstMatch_eq_bits (w : ArmWord) :
    firstMatch armTable w = firstMatch armTable (fieldAt 32 4 (bits w 27 4)) :=
  firstMatch_eq_fieldAt (by decide) w

/-- R60's table holds the row number of every high byte. -/
theorem firstMatch_thumbTable_fieldAt : ∀ b : BitVec 8, firstMatch thumbTable (fieldAt 16 8 b) = Machine.highByteEntry b := by
  decide

/-- A Thumb row number is R60's entry for the high byte. -/
theorem thumbFirstMatch_eq_highByteEntry (w : ThumbWord) :
    firstMatch thumbTable w = Machine.highByteEntry (bits w 15 8) := by
  rw [firstMatch_eq_fieldAt (hi := 15) (lo := 8) (by decide), firstMatch_thumbTable_fieldAt]

/-- A field of a field is a field of the word. -/
theorem bits_bits {n : Nat} (w : BitVec n) {hi lo h l : Nat} (hh : h ≤ hi - lo) (hl : l ≤ h) :
    bits (bits w hi lo) h l = w.extractLsb' (lo + l) (h - l + 1) := by
  apply BitVec.eq_of_getLsbD_eq
  intro i hlt
  have hinner : l + i < hi - lo + 1 := by omega
  rw [BitVec.getLsbD_extractLsb, BitVec.getLsbD_extractLsb, BitVec.getLsbD_extractLsb', Nat.add_assoc,
    decide_eq_true hinner, Bool.true_and]

/-- A field of the low halfword is that field of the port (10_state.md R29). -/
theorem bits_thumbOperand (w : ArmWord) {hi lo : Nat} (h : hi < 16) (hl : lo ≤ hi) :
    bits (thumbOperand w) hi lo = bits w hi lo :=
  BitVec.extractLsb'_setWidth_of_le (by omega)

/-- On 5 bits the result of `FirstMatch` over fewer than 32 rows is 0 only when it is 0. -/
theorem ofNat_firstMatch_eq_zero {n : Nat} {table : List (Row n)} (hlen : table.length < 32) (w : BitVec n) :
    BitVec.ofNat 5 (firstMatch table w) = 0#5 ↔ firstMatch table w = 0 := by
  rw [← BitVec.toNat_inj, toNat_ofNat_firstMatch table hlen]
  rfl

/-- R60's entry for a high byte in terms of its upper five bits: 18 for the bytes 18 to 1F. -/
theorem highByteEntry_addSubtract : ∀ b : BitVec 8, bits b 7 3 = 0b00011#5 → Machine.highByteEntry b = 18 := by
  decide

/-- Settles O15: agreement decides an overlap, as for ARM; the high byte's entry in R60's table is 1, or 18. -/
theorem thumbRowsOverlapExactlyAsListed : Obligations.ThumbRowsOverlapExactlyAsListed := by
  refine ⟨fun i j hi hij hj => ?_, fun w hw => ?_, fun w hw => ?_⟩
  · rw [exists_hit_iff_rowsAgree thumbTable_tidy, rowsAgree_thumbTable (j - 1) (by omega) (i - 1) (by omega),
      Nat.sub_add_cancel hi, Nat.sub_add_cancel (by omega)]
  · rw [decode_thumb, thumbFirstMatch_eq_highByteEntry, hw]
    rfl
  · have hbyte : bits (bits w 15 8) 7 3 = 0b00011#5 := (bits_bits w (by decide) (by decide)).trans hw
    rw [decode_thumb, thumbFirstMatch_eq_highByteEntry, highByteEntry_addSubtract _ hbyte]
    rfl

end Sys2Proof

namespace Sys2Proof.Machine

/-- Settles O22: both outputs are the row number of the same 24 bits. -/
theorem armAnswersDependOnBits27To4Only : Obligations.ArmAnswersDependOnBits27To4Only := by
  refine ⟨by decide, fun s s' c c' w w' h => ⟨_, _, step_asked_served s c ⟨0#1, w⟩, step_asked_served s' c' ⟨0#1, w'⟩, ?_⟩⟩
  rw [State.served_outIdx, State.served_outIdx, classify_arm, classify_arm, armFirstMatch_eq_bits w,
    armFirstMatch_eq_bits w', h]

/-- `Classify` of a Thumb request is R60's entry for bits 15:8 of its word. -/
theorem classify_thumb_highByte (w : ArmWord) :
    classify ⟨1#1, w⟩ = BitVec.ofNat 5 (highByteEntry (bits w 15 8)) := by
  have hbits : bits (thumbOperand w) 15 8 = bits w 15 8 := bits_thumbOperand w (by decide) (by decide)
  rw [← hbits, ← thumbFirstMatch_eq_highByteEntry]
  exact classify_eq ⟨1#1, w⟩

/-- Settles O24: the output is `Classify` of the request, which is the table's entry. -/
theorem thumbAnswersAreTheHighByteTable : Obligations.ThumbAnswersAreTheHighByteTable :=
  ⟨by decide, fun s c w => ⟨_, step_asked_served s c ⟨1#1, w⟩, classify_thumb_highByte w⟩⟩

end Sys2Proof.Machine

namespace Sys2Proof

/-! ## The Illegal words (30_encoding.md R64, R65) -/

/-- When every row of a table is covered by one of some of its rows, no row matches as soon as none of those does. -/
theorem noneHit_iff_of_covers {n : Nat} {table coarse : List (Row n)} (hsub : coarse ⊆ table)
    (hcov : ∀ r ∈ table, ∃ s ∈ coarse, s.Covers r) (w : BitVec n) :
    noneHit table w = true ↔ noneHit coarse w = true := by
  rw [noneHit_iff_forall_mem, noneHit_iff_forall_mem]
  refine ⟨fun h s hs => h s (hsub hs), fun h r hr => ?_⟩
  obtain ⟨s, hs, hc⟩ := hcov r hr
  exact Bool.eq_false_iff.2 fun hhit => Bool.false_ne_true ((h s hs).symm.trans (hc.hit hhit))

/-- The ARM rows that test no bit outside 27:24: rows 2, 3, 4, 6 and 13. -/
def armNibbleRows : List (Row 32) := armTable.filter fun r => fieldMask 32 27 24 &&& r.mask = r.mask

theorem armNibbleRows_cover : ∀ r ∈ armTable, ∃ s ∈ armNibbleRows, s.Covers r := by decide

/-- Whether an ARM word is Illegal is a function of bits 27:24. -/
theorem armFirstMatch_eq_zero_iff_nibble (w : ArmWord) :
    firstMatch armTable w = 0 ↔ firstMatch armNibbleRows (fieldAt 32 24 (bits w 27 24)) = 0 := by
  have hmask : ∀ r ∈ armNibbleRows, fieldMask 32 27 24 &&& r.mask = r.mask :=
    fun r hr => of_decide_eq_true (List.mem_filter.1 hr).2
  have hsub : armNibbleRows ⊆ armTable := List.filter_subset_self armTable
  rw [← noneHit_iff, noneHit_iff_of_covers hsub armNibbleRows_cover, noneHit_iff, firstMatch_eq_fieldAt hmask w]

/-- R64 on the nibble: the three values, and the two bit patterns. -/
theorem armNibbleRows_illegal : ∀ b : BitVec 4,
    (firstMatch armNibbleRows (fieldAt 32 24 b) = 0 ↔ b = 0b1100#4 ∨ b = 0b1101#4 ∨ b = 0b1110#4) ∧
    (firstMatch armNibbleRows (fieldAt 32 24 b) = 0 ↔ bits b 3 1 = 0b110#3 ∨ b = 0b1110#4) := by decide

/-- R65 on the high byte: the 19 values, and the six bit patterns. -/
theorem highByteEntry_illegal : ∀ b : BitVec 8,
    (BitVec.ofNat 5 (Machine.highByteEntry b) = 0#5 ↔
      b ∈ [0xB1#8, 0xB2#8, 0xB3#8, 0xB6#8, 0xB7#8, 0xB8#8, 0xB9#8, 0xBA#8, 0xBB#8, 0xBE#8,
        0xBF#8, 0xE8#8, 0xE9#8, 0xEA#8, 0xEB#8, 0xEC#8, 0xED#8, 0xEE#8, 0xEF#8]) ∧
    (BitVec.ofNat 5 (Machine.highByteEntry b) = 0#5 ↔
      bits b 7 2 = 0b101110#6 ∨ bits b 7 1 = 0b1011111#7 ∨ bits b 7 1 = 0b1011011#7 ∨
        bits b 7 1 = 0b1011001#7 ∨ b = 0b10110001#8 ∨ bits b 7 3 = 0b11101#5) := by decide

end Sys2Proof

namespace Sys2Proof.Machine

/-- Settles O27: five rows test bits 27:24 alone and cover the others, so Illegal is a property of that nibble. -/
theorem armIllegalIsExactlyTheThreeNibbles : Obligations.ArmIllegalIsExactlyTheThreeNibbles := by
  intro s c w
  refine ⟨_, step_asked_served s c ⟨0#1, w⟩, ?_⟩
  have hfield : bits (bits w 27 24) 3 1 = bits w 27 25 := bits_bits w (by decide) (by decide)
  rw [State.served_outIdx, classify_arm, ofNat_firstMatch_eq_zero (by decide), armFirstMatch_eq_zero_iff_nibble, ← hfield]
  exact armNibbleRows_illegal (bits w 27 24)

/-- Settles O28: the answer is R60's entry for the high byte, and every pattern is one of the high byte's fields. -/
theorem thumbIllegalIsExactlyTheNineteenHighBytes : Obligations.ThumbIllegalIsExactlyTheNineteenHighBytes := by
  intro s c w
  refine ⟨_, step_asked_served s c ⟨1#1, w⟩, ?_⟩
  have h10 : bits (bits w 15 8) 7 2 = bits w 15 10 := bits_bits w (by decide) (by decide)
  have h9 : bits (bits w 15 8) 7 1 = bits w 15 9 := bits_bits w (by decide) (by decide)
  have h11 : bits (bits w 15 8) 7 3 = bits w 15 11 := bits_bits w (by decide) (by decide)
  rw [State.served_outIdx, classify_thumb_highByte, ← h10, ← h9, ← h11]
  exact highByteEntry_illegal (bits w 15 8)

/-! ## The output codes (30_encoding.md R66, R67, R68) -/

/-- A code has no label exactly when it lies past the codes of the instruction set. -/
theorem label?_eq_none_iff (isa : Isa) (k : Idx) : label? isa k = none ↔ (codes isa).length ≤ k.toNat := by
  rw [label?, Option.map_eq_none_iff, List.getElem?_eq_none_iff]

/-- A code has no identifier exactly when it lies past the codes of the instruction set. -/
theorem identifier?_eq_none_iff (isa : Isa) (k : Idx) : identifier? isa k = none ↔ (codes isa).length ≤ k.toNat := by
  rw [identifier?, Option.map_eq_none_iff, List.getElem?_eq_none_iff]

/-- A code with a label has an identifier. -/
theorem exists_identifier_of_label {isa : Isa} {k : Idx} {l : String} (h : label? isa k = some l) :
    ∃ d, identifier? isa k = some d := by
  rw [← Option.ne_none_iff_exists', Ne, identifier?_eq_none_iff, ← label?_eq_none_iff, h]
  nofun

/-- The driver stops with the fault of I1 at a code without a label. -/
theorem driverPrint_of_label_none {s : State} (h : label? s.isa s.outIdx = none) (argv : List String) :
    driverPrint argv s = .fault .codeNeverOutput := by
  rw [driverPrint, h]

/-- Settles O29: the answer is the decoded instruction's code, a row number and so labelled; the constructors' codes are
looked up in the two code lists; a code past the end of its list has no label, at which the driver stops. -/
theorem codesHaveLabelsAndTheRestAreNeverOutput : Obligations.CodesHaveLabelsAndTheRestAreNeverOutput := by
  refine ⟨fun s c r => ?_, fun _ => rfl, fun _ => rfl, fun k => ?_, fun s argv hisa hidx => ?_, fun s argv hisa hidx => ?_⟩
  · obtain ⟨l, hl⟩ := label_rowNumber r
    rw [← classify_eq] at hl
    obtain ⟨d, hd⟩ := exists_identifier_of_label hl
    exact ⟨_, l, d, step_asked_served s c r, (classify_eq r).trans (decode_code r).symm, hl, hd⟩
  · exact ⟨label?_eq_none_iff .arm k, label?_eq_none_iff .thumb k, identifier?_eq_none_iff .arm k,
      identifier?_eq_none_iff .thumb k⟩
  · have harm : s.isa = .arm := by rw [State.isa, hisa]; rfl
    exact driverPrint_of_label_none (by rw [harm]; exact (label?_eq_none_iff .arm _).2 hidx) argv
  · have hthumb : s.isa = .thumb := by rw [State.isa, hisa]; rfl
    exact driverPrint_of_label_none (by rw [hthumb]; exact (label?_eq_none_iff .thumb _).2 hidx) argv

end Sys2Proof.Machine

namespace Sys2Proof

/-! ## The sizes of the effective sets (30_encoding.md R70)

A tidy row matches `2 ^ f` words, `f` being the number of bits it does not test. The words it matches outside a list of other
rows are counted by inclusion and exclusion: those outside the rest of the list, less those that the list's first row matches
too, which are the words of a meet. Only rows that agree make a second term, so the count follows the overlaps of R62. -/

section Sizes

variable {n : Nat}

/-- The number of words a tidy row matches. -/
def Row.size (r : Row n) : Nat := 2 ^ (Finset.univ.filter fun i : Fin n => r.mask.getLsbD i = false).card

/-- The values a row allows a bit of a word. -/
def Row.allowed (r : Row n) (i : Fin n) : Finset Bool :=
  if r.mask.getLsbD i = false then Finset.univ else {r.pattern.getLsbD i}

theorem Row.mem_allowed {r : Row n} {i : Fin n} {b : Bool} :
    b ∈ r.allowed i ↔ (r.mask.getLsbD i = true → b = r.pattern.getLsbD i) := by
  unfold Row.allowed
  split <;> simp_all

theorem Row.card_allowed (r : Row n) (i : Fin n) :
    (r.allowed i).card = if r.mask.getLsbD i = false then 2 else 1 := by
  unfold Row.allowed
  split <;> rfl

/-- Read as functions from positions to bits, the words a tidy row matches are the product of the values it allows each bit. -/
theorem Row.image_getLsb_hit {r : Row n} (hr : r.Tidy) :
    BitVec.getLsb '' {w | r.hit w = true} = (Fintype.piFinset r.allowed : Set (Fin n → Bool)) := by
  ext f
  simp only [Set.mem_image, Set.mem_ofPred_eq, Finset.mem_coe, Fintype.mem_piFinset, Row.mem_allowed, r.hit_iff_bits _ hr]
  constructor
  · rintro ⟨w, hw, rfl⟩ i
    exact hw i
  · intro hf
    refine ⟨BitVec.ofFnLE f, fun i hi => ?_, funext fun i => BitVec.getLsb_ofFnLE f i⟩
    have hlt : i < n := BitVec.lt_of_getLsbD hi
    rw [BitVec.getLsbD_ofFnLE, dif_pos hlt]
    exact hf ⟨i, hlt⟩ hi

/-- A tidy row matches as many words as its size says. -/
theorem Row.ncard_hit {r : Row n} (hr : r.Tidy) : {w | r.hit w = true}.ncard = r.size := by
  have hinj : Function.Injective (BitVec.getLsb : BitVec n → Fin n → Bool) := fun u v huv =>
    BitVec.eq_of_getLsbD_eq fun i hi => congrFun huv ⟨i, hi⟩
  rw [← Set.ncard_image_of_injective _ hinj, Row.image_getLsb_hit hr, Set.ncard_coe_finset, Fintype.card_piFinset]
  simp only [Row.card_allowed, Finset.prod_ite, Finset.prod_const, one_pow, mul_one, Row.size]

/-- The number of words that row `c` matches and no row of the list does. -/
def sizeOutside : List (Row n) → Row n → Nat
  | [], c => c.size
  | s :: rest, c => sizeOutside rest c - if c.Agree s then sizeOutside rest (c.meet s) else 0

/-- `sizeOutside` counts the words that a tidy row matches and no row of the list does. -/
theorem ncard_hit_outside {table : List (Row n)} (htidy : ∀ r ∈ table, r.Tidy) {c : Row n} (hc : c.Tidy) :
    {w | c.hit w = true ∧ noneHit table w = true}.ncard = sizeOutside table c := by
  induction table generalizing c with
  | nil => simpa [noneHit, sizeOutside] using Row.ncard_hit hc
  | cons s rest ih =>
    rw [List.forall_mem_cons] at htidy
    obtain ⟨hs, hrest⟩ := htidy
    have hsplit : {w | c.hit w = true ∧ noneHit (s :: rest) w = true} =
        {w | c.hit w = true ∧ noneHit rest w = true} \ {w | (c.hit w = true ∧ s.hit w = true) ∧ noneHit rest w = true} := by
      ext w
      cases hhit : s.hit w <;> simp [noneHit_cons, hhit]
    have hsub : {w | (c.hit w = true ∧ s.hit w = true) ∧ noneHit rest w = true} ⊆
        {w | c.hit w = true ∧ noneHit rest w = true} := fun w hw => ⟨hw.1.1, hw.2⟩
    rw [hsplit, Set.ncard_sdiff hsub, ih hrest hc, sizeOutside]
    congr 1
    simp only [Row.hit_and_hit_iff hc hs]
    split
    case isTrue h => simpa only [and_iff_right h] using ih hrest (hc.meet hs)
    case isFalse h => simp only [h, false_and, Set.ofPred_false, Set.ncard_empty]

/-- The number of words for which `FirstMatch` gives `k`. -/
def effectiveSize (table : List (Row n)) : Nat → Nat
  | 0 => sizeOutside table ⟨0#n, 0#n⟩
  | k + 1 => (table[k]?.map (sizeOutside (table.take k))).getD 0

/-- `effectiveSize` counts the words of each result of `FirstMatch` over tidy rows. -/
theorem ncard_firstMatch {table : List (Row n)} (htidy : ∀ r ∈ table, r.Tidy) (k : Nat) :
    {w | firstMatch table w = k}.ncard = effectiveSize table k := by
  cases k with
  | zero =>
    have hall : ∀ w : BitVec n, (⟨0#n, 0#n⟩ : Row n).hit w = true := fun w => (Row.hit_iff _ w).2 BitVec.and_zero
    rw [effectiveSize, ← ncard_hit_outside htidy BitVec.zero_and]
    simp only [hall, true_and, noneHit_iff]
  | succ k =>
    simp only [← rowWins_iff table _ (k + 1) k.succ_pos, rowWins, Nat.add_sub_cancel, Bool.and_eq_true, effectiveSize]
    cases hr : table[k]? with
    | none => simp
    | some r =>
      exact ncard_hit_outside (fun r hr => htidy r (List.mem_of_mem_take hr)) (htidy r (List.mem_of_getElem? hr))

end Sizes

/-- Settles O45: `FirstMatch`'s words are counted by inclusion and exclusion over the Thumb rows. -/
theorem thumbEffectiveSetSizes : Obligations.ThumbEffectiveSetSizes := by
  unfold Obligations.ThumbEffectiveSetSizes
  simp only [rowNumber_thumbRequest, ncard_firstMatch thumbTable_tidy]
  decide

/-- Settles O46: `FirstMatch`'s words are counted by inclusion and exclusion over the ARM rows. -/
theorem armEffectiveSetSizes : Obligations.ArmEffectiveSetSizes := by
  unfold Obligations.ArmEffectiveSetSizes
  simp only [rowNumber_armRequest, ncard_firstMatch armTable_tidy]
  decide

end Sys2Proof

/-! PROOFS. The statements of 40_arm_classifier.md: the answer to a request; one category per word; what the earlier rows
take from a row, with which the field forms of the ARM rows are computed; the orders that compute the same function. -/

namespace Sys2Proof.Machine

/-- Settles O17: the next state is the served request's, and `Classify` is the selected sequential classifier by its
definition. -/
theorem aRequestIsAnsweredByTheSequentialClassifier : Obligations.ARequestIsAnsweredByTheSequentialClassifier :=
  ⟨fun s c w => step_asked_served s c ⟨0#1, w⟩, fun s c w => step_asked_served s c ⟨1#1, w⟩⟩

end Sys2Proof.Machine

namespace Sys2Proof

/-! ## One category per word (40_arm_classifier.md R115, 41_thumb_classifier.md R141) -/

/-- Of the readings numbered below `n`, exactly one is well formed when being well formed means having the number `m`. -/
theorem length_filter_wellFormed {reading : Nat → Instr} {n m : Nat} (hm : m < n)
    (hwf : ∀ k < n, ((reading k).wellFormed = true ↔ m = k)) :
    (((List.range n).map reading).filter fun i => i.wellFormed).length = 1 := by
  have hcount : (List.range n).countP (fun k => (reading k).wellFormed) = (List.range n).count m :=
    List.countP_congr fun k hk => by rw [hwf k (List.mem_range.1 hk), beq_iff_eq, eq_comm]
  rw [← List.countP_eq_length_filter, List.countP_map]
  exact hcount.trans (List.count_eq_one_of_mem List.nodup_range (List.mem_range.2 hm))

/-- Exactly one of the 14 ARM rules fires. -/
theorem length_filter_armReadings (w : ArmWord) : ((armReadings w).filter fun i => i.wellFormed).length = 1 :=
  length_filter_wellFormed (Nat.lt_succ_of_le (armFirstMatch_le w)) fun _ hk =>
    armInstr_wellFormed_iff (Nat.le_of_lt_succ hk) w

/-- Exactly one of the 20 Thumb rules fires. -/
theorem length_filter_thumbReadings (w : ThumbWord) : ((thumbReadings w).filter fun i => i.wellFormed).length = 1 :=
  length_filter_wellFormed (Nat.lt_succ_of_le (thumbFirstMatch_le w)) fun _ hk =>
    thumbInstr_wellFormed_iff (Nat.le_of_lt_succ hk) w

end Sys2Proof

namespace Sys2Proof.Machine

/-- Settles O25: the one rule that fires is that of the first match; the response is `Classify` of the request, which is the
first match of its word on 5 bits. -/
theorem everyWordGetsExactlyOneCategory : Obligations.EveryWordGetsExactlyOneCategory := by
  refine ⟨fun w => ⟨length_filter_armReadings w, testsMade_le_length armTable w, fun s c =>
      ⟨_, step_asked_served s c ⟨0#1, w⟩, ?_, rfl⟩⟩,
    fun w => ⟨length_filter_thumbReadings w, testsMade_le_length thumbTable w, fun s c =>
      ⟨_, step_asked_served s c (thumbRequest w), ?_, rfl⟩⟩⟩
  · rw [State.served_outIdx, classify_arm, toNat_ofNat_firstMatch armTable (by decide)]
    exact armFirstMatch_le w
  · rw [State.served_outIdx, classify_thumbRequest, toNat_ofNat_firstMatch thumbTable (by decide)]
    exact thumbFirstMatch_le w

end Sys2Proof.Machine

namespace Sys2Proof

/-! ## Orders that compute the same function (40_arm_classifier.md R116, 41_thumb_classifier.md R142) -/

/-- A search does not stop at an element behind another one that meets the test. -/
theorem find?_ne_some_of_sublist {α : Type} {p : α → Bool} {a b : α} {l : List α} (hnd : l.Nodup)
    (hab : [a, b].Sublist l) (ha : p a = true) : l.find? p ≠ some b := by
  induction l with
  | nil => nofun
  | cons x xs ih =>
    obtain ⟨hx, hxs⟩ := List.nodup_cons.1 hnd
    rw [List.find?_cons]
    cases hab with
    | cons _ hab =>
      have hb : b ∈ xs := hab.subset (by simp)
      cases p x with
      | true => exact fun h => hx (Option.some.inj h ▸ hb)
      | false => exact ih hxs hab
    | cons_cons _ hb =>
      rw [ha]
      exact fun h => hx (Option.some.inj h ▸ List.singleton_sublist.1 hb)

section Orders

variable {n : Nat} {table : List (Row n)}

/-- The numbered rows of a table are its rows with their positions, counted from 1. -/
theorem mem_zipIdx_one_iff {r : Row n} {k : Nat} : (r, k) ∈ table.zipIdx 1 ↔ 1 ≤ k ∧ table[k - 1]? = some r :=
  List.mk_mem_zipIdx_iff_le_and_getElem?_sub

/-- Testing the numbered rows in any order in which of two rows that match one word the lower-numbered stands first computes
`FirstMatch`. -/
theorem find?_eq_firstMatch (htidy : ∀ r ∈ table, r.Tidy) {l : List (Row n × Nat)} (hperm : l.Perm (table.zipIdx 1))
    (horder : ∀ a ∈ table.zipIdx 1, ∀ b ∈ table.zipIdx 1, a.2 < b.2 → a.1.Agree b.1 → [a, b].Sublist l)
    (w : BitVec n) : ((l.find? fun p => p.1.hit w).map (·.2)).getD 0 = firstMatch table w := by
  obtain ⟨-, hzero, hsucc, -⟩ := firstMatchFindsTheLowestMatchingRow n table w
  cases hfind : l.find? fun p => p.1.hit w with
  | none =>
    refine (hzero.2 fun r hr => ?_).symm
    obtain ⟨j, hj⟩ := List.mem_iff_getElem?.1 hr
    have hmem : (r, j + 1) ∈ l := hperm.mem_iff.2 (mem_zipIdx_one_iff.2 ⟨j.succ_pos, hj⟩)
    exact Bool.eq_false_iff.2 (List.find?_eq_none.1 hfind _ hmem)
  | some b =>
    obtain ⟨r, k⟩ := b
    have hb : (r, k) ∈ table.zipIdx 1 := hperm.mem_iff.1 (List.mem_of_find?_eq_some hfind)
    have hr : r.hit w = true :=
      List.find?_some (p := fun p : Row n × Nat => p.1.hit w) hfind
    obtain ⟨hk, hrow⟩ := mem_zipIdx_one_iff.1 hb
    have hnd : l.Nodup := hperm.nodup_iff.2 (List.Nodup.of_map Prod.snd (by simp [List.nodup_range']))
    suffices hfirst : firstMatch table w = k - 1 + 1 by
      rw [hfirst, Nat.sub_add_cancel hk]; rfl
    refine (hsucc (k - 1)).2 ⟨⟨r, hrow, hr⟩, fun j hj a ha => Bool.eq_false_iff.2 fun hhit => ?_⟩
    have hagree : a.Agree r := (Row.exists_hit_and_hit_iff (htidy a (List.mem_of_getElem? ha))
      (htidy r (List.mem_of_getElem? hrow))).1 ⟨w, hhit, hr⟩
    have hbefore : [(a, j + 1), (r, k)].Sublist l :=
      horder (a, j + 1) (mem_zipIdx_one_iff.2 ⟨j.succ_pos, ha⟩) (r, k) hb (Nat.add_lt_of_lt_sub hj) hagree
    exact find?_ne_some_of_sublist hnd hbefore hhit hfind

end Orders

/-- The numbered Thumb rows that overlap are rows 1 and 3 and rows 18 and 19 (30_encoding.md R63). -/
theorem agree_thumbTable_zipIdx : ∀ a ∈ thumbTable.zipIdx 1, ∀ b ∈ thumbTable.zipIdx 1, a.2 < b.2 → a.1.Agree b.1 →
    [a, b] = [(⟨0xFF00#16, 0xDF00#16⟩, 1), (⟨0xF000#16, 0xD000#16⟩, 3)] ∨
      [a, b] = [(⟨0xF800#16, 0x1800#16⟩, 18), (⟨0xE000#16, 0x0000#16⟩, 19)] := by decide

end Sys2Proof

namespace Sys2Proof.Machine

/-- Settles O16: an order that keeps every overlapping pair computes `FirstMatch`, and for Thumb the two pairs are all
there are. -/
theorem ordersThatKeepOverlappingPairsAgree : Obligations.OrdersThatKeepOverlappingPairsAgree := by
  refine ⟨fun l hperm horder w => ?_, fun l hperm hpair1 hpair18 w => ?_⟩
  · rw [armClassify_eq_firstMatch]
    exact find?_eq_firstMatch armTable_tidy hperm horder w
  · rw [thumbClassify_eq_firstMatch]
    refine find?_eq_firstMatch thumbTable_tidy hperm (fun a ha b hb hlt hagree => ?_) w
    obtain h | h := agree_thumbTable_zipIdx a ha b hb hlt hagree <;> rw [h]
    · exact hpair1
    · exact hpair18

end Sys2Proof.Machine

namespace Sys2Proof

/-! ## What the earlier rows take from a row (40_arm_classifier.md R101 to R113) -/

section Taken

variable {n : Nat} {table : List (Row n)} {k : Nat} {c : Row n} {taken : List (Row n)}

/-- Among the words of `c`, every word that a row of `xs` matches is matched by a row of `ys`: no word of a meet is left over. -/
abbrev Row.Within (c : Row n) (xs ys : List (Row n)) : Prop :=
  ∀ x ∈ xs, c.Agree x → sizeOutside ys (c.meet x) = 0

/-- Where no row of `ys` matches a word of `c`, no row of `xs` does. -/
theorem Row.Within.noneHit {xs ys : List (Row n)} (h : c.Within xs ys) (hc : c.Tidy) (hxs : ∀ x ∈ xs, x.Tidy)
    (hys : ∀ y ∈ ys, y.Tidy) {w : BitVec n} (hw : c.hit w = true) (hnone : noneHit ys w = true) :
    noneHit xs w = true := by
  refine (noneHit_iff_forall_mem xs w).2 fun x hx => Bool.eq_false_iff.2 fun hhit => ?_
  obtain ⟨hagree, hmeet⟩ := (Row.hit_and_hit_iff hc (hxs x hx) w).1 ⟨hw, hhit⟩
  have hcount := (ncard_hit_outside hys (hc.meet (hxs x hx))).trans (h x hx hagree)
  exact Set.eq_empty_iff_forall_notMem.1 ((Set.ncard_eq_zero (Set.toFinite _)).1 hcount) w ⟨hmeet, hnone⟩

/-- Row `c` stands at position `k`, and of its words the rows before it take those that the rows `taken` match. -/
abbrev LosesExactly (table : List (Row n)) (k : Nat) (c : Row n) (taken : List (Row n)) : Prop :=
  table[k]? = some c ∧ c.Within (table.take k) taken ∧ c.Within taken (table.take k)

/-- Row `k + 1` wins the words it matches that are not among those taken. -/
theorem LosesExactly.rowWins_eq (h : LosesExactly table k c taken) (htidy : ∀ r ∈ table, r.Tidy)
    (htaken : ∀ r ∈ taken, r.Tidy) (w : BitVec n) : rowWins table (k + 1) w = (c.hit w && noneHit taken w) := by
  obtain ⟨hrow, hin, hout⟩ := h
  have hc : c.Tidy := htidy c (List.mem_of_getElem? hrow)
  have hbefore : ∀ r ∈ table.take k, r.Tidy := fun r hr => htidy r (List.mem_of_mem_take hr)
  rw [rowWins, Nat.add_sub_cancel, hrow, Option.any_some]
  cases hw : c.hit w with
  | false => rfl
  | true => exact Bool.eq_iff_iff.2 ⟨hout.noneHit hc htaken hbefore hw, hin.noneHit hc hbefore htaken hw⟩

end Taken

/-! ## Rows written as lists of fields -/

/-- A field of an ARM word and the value asked of it. -/
structure FieldTest where
  hi : Nat
  lo : Nat
  value : BitVec (hi - lo + 1)

/-- The word has the field's value. -/
abbrev FieldTest.Holds (f : FieldTest) (w : ArmWord) : Prop := bits w f.hi f.lo = f.value

/-- The row that tests a field. -/
abbrev FieldTest.row (f : FieldTest) : Row 32 := fieldRow 32 f.hi f.lo f.value

/-- The row that tests every field of a list. -/
def fieldsRow : List FieldTest → Row 32
  | [] => ⟨0#32, 0#32⟩
  | f :: fs => f.row.meet (fieldsRow fs)

/-- The fields lie in the word, and do not contradict each other where they share a bit. -/
def fieldsFit : List FieldTest → Bool
  | [] => true
  | f :: fs => decide (f.lo + (f.hi - f.lo + 1) ≤ 32 ∧ f.row.Tidy ∧ f.row.Agree (fieldsRow fs)) && fieldsFit fs

theorem fieldsFit_cons {f : FieldTest} {fs : List FieldTest} : fieldsFit (f :: fs) = true ↔
    (f.lo + (f.hi - f.lo + 1) ≤ 32 ∧ f.row.Tidy ∧ f.row.Agree (fieldsRow fs)) ∧ fieldsFit fs = true := by
  rw [fieldsFit, Bool.and_eq_true, decide_eq_true_iff]

theorem fieldsRow_tidy {fs : List FieldTest} (h : fieldsFit fs = true) : (fieldsRow fs).Tidy := by
  induction fs with
  | nil => exact BitVec.zero_and
  | cons f fs ih =>
    obtain ⟨⟨-, hf, -⟩, hfs⟩ := fieldsFit_cons.1 h
    exact hf.meet (ih hfs)

/-- The row of a list of fields matches the words that have them all. -/
theorem hit_fieldsRow {fs : List FieldTest} (h : fieldsFit fs = true) (w : ArmWord) :
    (fieldsRow fs).hit w = true ↔ ∀ f ∈ fs, f.Holds w := by
  induction fs with
  | nil => exact iff_of_true ((Row.hit_iff _ w).2 BitVec.and_zero) nofun
  | cons f fs ih =>
    obtain ⟨⟨hle, hf, hagree⟩, hfs⟩ := fieldsFit_cons.1 h
    rw [fieldsRow, Row.hit_meet hf (fieldsRow_tidy hfs) hagree, Bool.and_eq_true, hit_fieldRow hle,
      decide_eq_true_iff, ih hfs, List.forall_mem_cons]

/-- A word has the fields `fs`, and for none of the lists in `taken` has it all the fields. -/
def FieldForm (fs : List FieldTest) (taken : List (List FieldTest)) (w : ArmWord) : Prop :=
  ((fs.map fun f => f.Holds w) ++ taken.map fun t => ¬t.Forall fun f => f.Holds w).Forall id

/-- ARM row `k + 1` tests the fields `fs`, and of its words the earlier rows take those that have all the fields of one of
the lists `taken`. -/
abbrev ArmRowFields (k : Nat) (fs : List FieldTest) (taken : List (List FieldTest)) : Prop :=
  (∀ t ∈ fs :: taken, fieldsFit t = true) ∧ LosesExactly armTable k (fieldsRow fs) (taken.map fieldsRow)

/-- The effective set of an ARM row in its field form. -/
theorem armRowWins_iff {k : Nat} {fs : List FieldTest} {taken : List (List FieldTest)} (h : ArmRowFields k fs taken)
    (w : ArmWord) : rowWins armTable (k + 1) w = true ↔ FieldForm fs taken w := by
  obtain ⟨hfit, hloses⟩ := h
  obtain ⟨hfs, htaken⟩ := List.forall_mem_cons.1 hfit
  have htidy : ∀ r ∈ taken.map fieldsRow, r.Tidy := List.forall_mem_map.2 fun t ht => fieldsRow_tidy (htaken t ht)
  have hnone : noneHit (taken.map fieldsRow) w = true ↔ ∀ t ∈ taken, ¬∀ f ∈ t, f.Holds w := by
    rw [noneHit_iff_forall_mem, List.forall_mem_map]
    exact forall₂_congr fun t ht => by rw [← hit_fieldsRow (htaken t ht), Bool.not_eq_true]
  rw [hloses.rowWins_eq armTable_tidy htidy, Bool.and_eq_true, hit_fieldsRow hfs, hnone, FieldForm]
  simp only [List.forall_iff_forall_mem, List.forall_mem_append, List.forall_mem_map, id]

end Sys2Proof

namespace Sys2Proof.Machine

/-- An instruction whose effective set has the form `p` drives its code when `p` holds, and does nothing otherwise. -/
theorem exec_eq_of_wellFormed_iff {i : Instr} {p : Prop} [Decidable p] (h : i.wellFormed = true ↔ p) (s : State) :
    exec i s = .next (if p then s.drive i.code else s) := by
  simp only [exec_eq, h]

/-- Settles O33: no earlier row takes a word from row 1 or row 3. -/
theorem armBranchRowsDriveTheirNumbers : Obligations.ArmBranchRowsDriveTheirNumbers := by
  have hrow1 : ArmRowFields 0 [⟨27, 4, 0x012FFF1#24⟩] [] := by decide
  have hrow3 : ArmRowFields 2 [⟨27, 25, 0b101#3⟩] [] := by decide
  refine ⟨fun w s => exec_eq_of_wellFormed_iff ?_ s, fun w s => exec_eq_of_wellFormed_iff ?_ s⟩
  · exact armRowWins_iff hrow1 w
  · exact armRowWins_iff hrow3 w

/-- Row 6 tests the field 27:26, and its rule speaks of 27:25. -/
theorem singleDataTransfer_fields : ∀ (a : BitVec 3) (b : BitVec 1),
    bits a 2 1 = 0b01#2 ∧ ¬(a = 0b011#3 ∧ b = 1#1) ↔ a = 0b010#3 ∨ (a = 0b011#3 ∧ b = 0#1) := by decide

/-- Settles O34: of row 6's words, row 5 takes those with `w[27:25] = 011` and `w[4] = 1`. -/
theorem armTransferRowsDriveTheirNumbers : Obligations.ArmTransferRowsDriveTheirNumbers := by
  have hrow2 : ArmRowFields 1 [⟨27, 25, 0b100#3⟩] [] := by decide
  have hrow6 : ArmRowFields 5 [⟨27, 26, 0b01#2⟩] [[⟨27, 25, 0b011#3⟩, ⟨4, 4, 1#1⟩]] := by decide
  refine ⟨fun w s => exec_eq_of_wellFormed_iff ?_ s, fun w s => exec_eq_of_wellFormed_iff ?_ s⟩
  · exact armRowWins_iff hrow2 w
  · have hbits : bits (bits w 27 25) 2 1 = bits w 27 26 := bits_bits w (by decide) (by decide)
    rw [← singleDataTransfer_fields, hbits]
    exact armRowWins_iff hrow6 w

/-- Settles O35: no earlier row takes a word from row 4 or row 5. -/
theorem armTrapNamedRowsOnlyDriveTheirNumbers : Obligations.ArmTrapNamedRowsOnlyDriveTheirNumbers := by
  have hrow4 : ArmRowFields 3 [⟨27, 24, 0b1111#4⟩] [] := by decide
  have hrow5 : ArmRowFields 4 [⟨27, 25, 0b011#3⟩, ⟨4, 4, 1#1⟩] [] := by decide
  refine ⟨fun w s => exec_eq_of_wellFormed_iff ?_ s, fun w s => exec_eq_of_wellFormed_iff ?_ s⟩
  · exact armRowWins_iff hrow4 w
  · exact armRowWins_iff hrow5 w

/-- Settles O36: no earlier row takes a word from row 7 or row 8. -/
theorem armSwapAndMultiplyRowsDriveTheirNumbers : Obligations.ArmSwapAndMultiplyRowsDriveTheirNumbers := by
  have hrow7 : ArmRowFields 6 [⟨27, 23, 0b00010#5⟩, ⟨11, 4, 0x09#8⟩] [] := by decide
  have hrow8 : ArmRowFields 7 [⟨27, 24, 0b0000#4⟩, ⟨7, 4, 0b1001#4⟩] [] := by decide
  refine ⟨fun w s => exec_eq_of_wellFormed_iff ?_ s, fun w s => exec_eq_of_wellFormed_iff ?_ s⟩
  · exact armRowWins_iff hrow7 w
  · exact armRowWins_iff hrow8 w

/-- What rows 7 and 8 leave of row 9: three values of 24:23 are taken where 6:5 is zero, so the fourth is not. -/
theorem halfwordTransferReg_fields : ∀ a b : BitVec 2,
    ¬(a = 0b00#2 ∧ b = 0b00#2) ∧ ¬(a = 0b01#2 ∧ b = 0b00#2) ∧ ¬(a = 0b10#2 ∧ b = 0b00#2) ↔
      b ≠ 0b00#2 ∨ a = 0b11#2 := by decide

/-- Settles O37: of the words of rows 9 and 10 with `w[6:5] = 00`, row 8 takes those with bit 24 clear, and row 7 those with
`w[24:23] = 10` and `w[11:8] = 0000`. -/
theorem armHalfwordRowsDriveTheirNumbers : Obligations.ArmHalfwordRowsDriveTheirNumbers := by
  have hrow9 : ArmRowFields 8
      [⟨27, 25, 0b000#3⟩, ⟨22, 22, 0#1⟩, ⟨11, 8, 0b0000#4⟩, ⟨7, 7, 1#1⟩, ⟨4, 4, 1#1⟩]
      [[⟨24, 23, 0b00#2⟩, ⟨6, 5, 0b00#2⟩], [⟨24, 23, 0b01#2⟩, ⟨6, 5, 0b00#2⟩], [⟨24, 23, 0b10#2⟩, ⟨6, 5, 0b00#2⟩]] := by
    decide
  have hrow10 : ArmRowFields 9 [⟨27, 25, 0b000#3⟩, ⟨22, 22, 1#1⟩, ⟨7, 7, 1#1⟩, ⟨4, 4, 1#1⟩]
      [[⟨24, 24, 0#1⟩, ⟨6, 5, 0b00#2⟩], [⟨24, 23, 0b10#2⟩, ⟨11, 8, 0b0000#4⟩, ⟨6, 5, 0b00#2⟩]] := by decide
  refine ⟨fun w s => exec_eq_of_wellFormed_iff ?_ s, fun w s => exec_eq_of_wellFormed_iff ?_ s⟩
  · rw [← halfwordTransferReg_fields]
    exact armRowWins_iff hrow9 w
  · exact armRowWins_iff hrow10 w

/-- Settles O38: from rows 11 and 12, rows 9 and 10 take the words with bits 7 and 4 set and either bit 22 set or 11:8 zero
(from row 12 only with bit 25 clear), and what row 7 takes is among these; row 1 takes its own words from row 12. -/
theorem armPsrRowsDriveTheirNumbers : Obligations.ArmPsrRowsDriveTheirNumbers := by
  have hrow11 : ArmRowFields 10 [⟨27, 23, 0b00010#5⟩, ⟨21, 16, 0b001111#6⟩]
      [[⟨7, 7, 1#1⟩, ⟨4, 4, 1#1⟩, ⟨22, 22, 1#1⟩], [⟨7, 7, 1#1⟩, ⟨4, 4, 1#1⟩, ⟨11, 8, 0b0000#4⟩]] := by decide
  have hrow12 : ArmRowFields 11 [⟨27, 26, 0b00#2⟩, ⟨24, 23, 0b10#2⟩, ⟨21, 20, 0b10#2⟩, ⟨15, 12, 0b1111#4⟩]
      [[⟨27, 4, 0x012FFF1#24⟩], [⟨25, 25, 0#1⟩, ⟨7, 7, 1#1⟩, ⟨4, 4, 1#1⟩, ⟨22, 22, 1#1⟩],
        [⟨25, 25, 0#1⟩, ⟨7, 7, 1#1⟩, ⟨4, 4, 1#1⟩, ⟨11, 8, 0b0000#4⟩]] := by decide
  refine ⟨fun w s => exec_eq_of_wellFormed_iff ?_ s, fun w s => exec_eq_of_wellFormed_iff ?_ s⟩
  · simp only [and_or_left, not_or]
    exact armRowWins_iff hrow11 w
  · simp only [and_or_left, not_or]
    exact armRowWins_iff hrow12 w

/-- The fallback takes the words of the three nibbles (30_encoding.md R64). -/
theorem armIllegal_wellFormed_iff (w : ArmWord) : (Instr.armIllegal w).wellFormed = true ↔
    bits w 27 24 = 0b1100#4 ∨ bits w 27 24 = 0b1101#4 ∨ bits w 27 24 = 0b1110#4 :=
  (noneHit_iff armTable w).trans ((armFirstMatch_eq_zero_iff_nibble w).trans (armNibbleRows_illegal (bits w 27 24)).1)

/-- Settles O39: row 13 loses the words of rows 1 and 7 to 12, whose fields are written less what `w[27:26] = 00` says of
them; the fallback's words are those of R64's nibbles. -/
theorem armDataProcessingAndFallbackDriveTheirNumbers :
    Obligations.ArmDataProcessingAndFallbackDriveTheirNumbers := by
  have hrow13 : ArmRowFields 12 [⟨27, 26, 0b00#2⟩]
      [[⟨27, 4, 0x012FFF1#24⟩], [⟨27, 23, 0b00010#5⟩, ⟨11, 4, 0x09#8⟩], [⟨27, 24, 0b0000#4⟩, ⟨7, 4, 0b1001#4⟩],
        [⟨25, 25, 0#1⟩, ⟨7, 7, 1#1⟩, ⟨4, 4, 1#1⟩, ⟨22, 22, 1#1⟩],
        [⟨25, 25, 0#1⟩, ⟨7, 7, 1#1⟩, ⟨4, 4, 1#1⟩, ⟨11, 8, 0b0000#4⟩],
        [⟨27, 23, 0b00010#5⟩, ⟨21, 16, 0b001111#6⟩], [⟨24, 23, 0b10#2⟩, ⟨21, 20, 0b10#2⟩, ⟨15, 12, 0b1111#4⟩]] := by
    decide
  refine ⟨fun w s => exec_eq_of_wellFormed_iff ?_ s, fun w s => exec_eq_of_wellFormed_iff ?_ s⟩
  · simp only [and_or_left, not_or, and_assoc]
    exact armRowWins_iff hrow13 w
  · exact armIllegal_wellFormed_iff w

end Sys2Proof.Machine

/-! PROOFS. The statements of 41_thumb_classifier.md: the upper halfword of a Thumb request; the Thumb rows, each by the high
bytes it answers, read off the table of 30_encoding.md R60. -/

namespace Sys2Proof.Machine

/-- `Classify` of a Thumb request does not see the upper halfword: it cuts the word to its halfword, and presenting that
halfword is clearing the upper one. -/
theorem classify_thumb_and (w : ArmWord) : classify ⟨1#1, w &&& 0x0000FFFF#32⟩ = classify ⟨1#1, w⟩ := by
  rw [← setWidth_thumbOperand]
  exact congrArg (fun v => BitVec.ofNat 5 (thumbClassify v)) (thumbOperand_setWidth (thumbOperand w))

/-- Settles O23: the masks are read row by row; the outputs are `Classify` of the two requests, and of the two examples. -/
theorem thumbAnswersIgnoreTheUpperHalfword : Obligations.ThumbAnswersIgnoreTheUpperHalfword := by
  have hhigh : classify ⟨1#1, 0xFFFF0000#32⟩ = 19#5 := by decide
  have hswi : classify ⟨1#1, 0x0001DF00#32⟩ = 1#5 := by decide
  refine ⟨by decide, fun s s' c c' w => ?_, fun s c => ⟨_, step_asked_served s c _, hhigh⟩,
    fun s c => ⟨_, step_asked_served s c _, hswi⟩⟩
  exact ⟨_, _, step_asked_served s c _, step_asked_served s' c' _, (classify_thumb_and w).symm⟩

/-! ## The rows by their high bytes (41_thumb_classifier.md R121 to R140) -/

/-- The high bytes to which R60's table gives the number `k` are those with `p`. -/
abbrev ThumbRowBytes (k : Nat) (p : BitVec 8 → Prop) : Prop := ∀ b : BitVec 8, highByteEntry b = k ↔ p b

/-- The effective set of a Thumb row, or of the fallback, is given by its high bytes. -/
theorem thumbInstr_wellFormed_iff_bytes {k : Nat} {p : BitVec 8 → Prop} (hk : k ≤ 19) (h : ThumbRowBytes k p)
    (w : ThumbWord) : (thumbInstr k w).wellFormed = true ↔ p (bits w 15 8) := by
  rw [thumbInstr_wellFormed_iff hk, thumbFirstMatch_eq_highByteEntry, h]

/-- A Thumb row drives its number on its high bytes, and does nothing on any other word. -/
theorem exec_thumbInstr_of_bytes {k : Nat} {p : BitVec 8 → Prop} [DecidablePred p] (hk : k ≤ 19) (h : ThumbRowBytes k p)
    (w : ThumbWord) (s : State) :
    exec (thumbInstr k w) s = .next (if p (bits w 15 8) then s.drive (thumbInstr k w).code else s) :=
  exec_eq_of_wellFormed_iff (thumbInstr_wellFormed_iff_bytes hk h w) s

/-- Settles O40: the high bytes of rows 1, 2, 3, 5 and 15; row 1 takes `DF` from row 3. -/
theorem thumbControlRowsDriveTheirNumbers : Obligations.ThumbControlRowsDriveTheirNumbers := by
  have hrow1 : ThumbRowBytes 1 (fun b => b = 0xDF#8) := by decide
  have hrow2 : ThumbRowBytes 2 (fun b => 0xE0#8 ≤ b ∧ b ≤ 0xE7#8) := by decide
  have hrow3 : ThumbRowBytes 3 (fun b => 0xD0#8 ≤ b ∧ b ≤ 0xDE#8) := by decide
  have hrow5 : ThumbRowBytes 5 (fun b => 0xF0#8 ≤ b) := by decide
  have hrow15 : ThumbRowBytes 15 (fun b => 0x44#8 ≤ b ∧ b ≤ 0x47#8) := by decide
  exact ⟨exec_thumbInstr_of_bytes (by decide) hrow1, exec_thumbInstr_of_bytes (by decide) hrow2,
    exec_thumbInstr_of_bytes (by decide) hrow3, exec_thumbInstr_of_bytes (by decide) hrow5,
    exec_thumbInstr_of_bytes (by decide) hrow15⟩

/-- Settles O41: the high bytes of rows 4, 8 and 11 to 14; bit 1 of the byte tells row 13 from row 12. -/
theorem thumbLoadStoreRowsDriveTheirNumbers : Obligations.ThumbLoadStoreRowsDriveTheirNumbers := by
  have hrow4 : ThumbRowBytes 4 (fun b => 0xC0#8 ≤ b ∧ b ≤ 0xCF#8) := by decide
  have hrow8 : ThumbRowBytes 8 (fun b => 0x80#8 ≤ b ∧ b ≤ 0x8F#8) := by decide
  have hrow11 : ThumbRowBytes 11 (fun b => 0x60#8 ≤ b ∧ b ≤ 0x7F#8) := by decide
  have hrow12 : ThumbRowBytes 12
      (fun b => b ∈ [0x50#8, 0x51#8, 0x54#8, 0x55#8, 0x58#8, 0x59#8, 0x5C#8, 0x5D#8]) := by decide
  have hrow13 : ThumbRowBytes 13
      (fun b => b ∈ [0x52#8, 0x53#8, 0x56#8, 0x57#8, 0x5A#8, 0x5B#8, 0x5E#8, 0x5F#8]) := by decide
  have hrow14 : ThumbRowBytes 14 (fun b => 0x48#8 ≤ b ∧ b ≤ 0x4F#8) := by decide
  exact ⟨exec_thumbInstr_of_bytes (by decide) hrow4, exec_thumbInstr_of_bytes (by decide) hrow8,
    exec_thumbInstr_of_bytes (by decide) hrow11, exec_thumbInstr_of_bytes (by decide) hrow12,
    exec_thumbInstr_of_bytes (by decide) hrow13, exec_thumbInstr_of_bytes (by decide) hrow14⟩

/-- Settles O42: the high bytes of rows 6, 7, 9 and 10. -/
theorem thumbStackAndAddressRowsDriveTheirNumbers : Obligations.ThumbStackAndAddressRowsDriveTheirNumbers := by
  have hrow6 : ThumbRowBytes 6 (fun b => b = 0xB0#8) := by decide
  have hrow7 : ThumbRowBytes 7 (fun b => b ∈ [0xB4#8, 0xB5#8, 0xBC#8, 0xBD#8]) := by decide
  have hrow9 : ThumbRowBytes 9 (fun b => 0x90#8 ≤ b ∧ b ≤ 0x9F#8) := by decide
  have hrow10 : ThumbRowBytes 10 (fun b => 0xA0#8 ≤ b ∧ b ≤ 0xAF#8) := by decide
  exact ⟨exec_thumbInstr_of_bytes (by decide) hrow6, exec_thumbInstr_of_bytes (by decide) hrow7,
    exec_thumbInstr_of_bytes (by decide) hrow9, exec_thumbInstr_of_bytes (by decide) hrow10⟩

/-- Settles O43: the high bytes of rows 16 to 19; row 18 takes `18` to `1F` from row 19. -/
theorem thumbArithmeticRowsDriveTheirNumbers : Obligations.ThumbArithmeticRowsDriveTheirNumbers := by
  have hrow16 : ThumbRowBytes 16 (fun b => 0x40#8 ≤ b ∧ b ≤ 0x43#8) := by decide
  have hrow17 : ThumbRowBytes 17 (fun b => 0x20#8 ≤ b ∧ b ≤ 0x3F#8) := by decide
  have hrow18 : ThumbRowBytes 18 (fun b => 0x18#8 ≤ b ∧ b ≤ 0x1F#8) := by decide
  have hrow19 : ThumbRowBytes 19 (fun b => b ≤ 0x17#8) := by decide
  exact ⟨exec_thumbInstr_of_bytes (by decide) hrow16, exec_thumbInstr_of_bytes (by decide) hrow17,
    exec_thumbInstr_of_bytes (by decide) hrow18, exec_thumbInstr_of_bytes (by decide) hrow19⟩

/-- Settles O44: the 19 high bytes of R65, at which R60's table has a 0. -/
theorem thumbFallbackDrivesZero : Obligations.ThumbFallbackDrivesZero := by
  have hfallback : ThumbRowBytes 0 (fun b => b = 0xB1#8 ∨ b = 0xB2#8 ∨ b = 0xB3#8 ∨ (0xB6#8 ≤ b ∧ b ≤ 0xBB#8) ∨
      b = 0xBE#8 ∨ b = 0xBF#8 ∨ (0xE8#8 ≤ b ∧ b ≤ 0xEF#8)) := by decide
  exact exec_thumbInstr_of_bytes (by decide) hfallback

end Sys2Proof.Machine

/-! PROOFS. The statements of 42_host_driver.md: the digits and the value they spell; what the driver makes of its
arguments; the two errors and the refusals; a successful run and the line it prints. -/

namespace Sys2Proof.Machine

/-! ## Digits (42_host_driver.md R155) -/

/-- The codes of the hex digits lie below 103. -/
theorem toNat_lt_of_hexDigit {c : Char} (h : hexDigit? c ≠ none) : c.toNat < 103 := by
  by_contra hge
  have h9 : ¬(48 ≤ c.toNat ∧ c.toNat ≤ 57) := by omega
  have hf : ¬(97 ≤ c.toNat ∧ c.toNat ≤ 102) := by omega
  have hF : ¬(65 ≤ c.toNat ∧ c.toNat ≤ 70) := by omega
  exact h (by simp only [hexDigit?, if_neg h9, if_neg hf, if_neg hF])

/-- Settles O49: the digits are looked up; any other character with a value would have a code below 103, and those are
tried one by one. -/
theorem hexDigitsHaveTheirValuesInBothCases : Obligations.HexDigitsHaveTheirValuesInBothCases := by
  have hcodes : ∀ n < 103, hexDigit? (Char.ofNat n) ≠ none → Char.ofNat n ∈ "0123456789abcdefABCDEF".toList := by decide
  refine ⟨by decide, by decide, fun c hc => ?_⟩
  have hmem := hcodes c.toNat (toNat_lt_of_hexDigit hc)
  rw [Char.ofNat_toNat] at hmem
  exact hmem hc

/-- The number that hex digits spell, the leftmost the most significant. -/
def spelledValue (ds : List Nat) : Nat := (ds.zipIdx.map fun p => p.1 * 16 ^ (ds.length - 1 - p.2)).sum

/-- The driver reads a string of hex digits as the number they spell. -/
theorem hexValue?_eq {cs : List Char} {ds : List Nat} (h : cs.map hexDigit? = ds.map some) :
    hexValue? cs = some (spelledValue ds) := by
  rw [hexValue?, hexValueFrom_eq cs ds 0 h, Nat.zero_mul, Nat.zero_add, spelledValue]

/-- Each digit read multiplies the bound of the value by 16. -/
theorem hexValueFrom_lt {cs : List Char} {acc v : Nat} (h : hexValueFrom acc cs = some v) :
    v < (acc + 1) * 16 ^ cs.length := by
  induction cs generalizing acc with
  | nil =>
    obtain rfl := Option.some.inj h
    simp
  | cons c rest ih =>
    rw [hexValueFrom] at h
    cases hc : hexDigit? c with
    | none => rw [hc] at h; cases h
    | some d =>
      rw [hc] at h
      have hd : d < 16 := hexDigit_lt hc
      calc v < (acc * 16 + d + 1) * 16 ^ rest.length := ih h
        _ ≤ ((acc + 1) * 16) * 16 ^ rest.length := Nat.mul_le_mul_right _ (by omega)
        _ = (acc + 1) * 16 ^ (c :: rest).length := by rw [List.length_cons, pow_succ']; ring

/-- Hex digits spell a number below 16 to their count. -/
theorem spelledValue_lt {cs : List Char} {ds : List Nat} (h : cs.map hexDigit? = ds.map some) :
    spelledValue ds < 16 ^ ds.length := by
  have hlen : cs.length = ds.length := by simpa using congrArg List.length h
  simpa [hlen] using hexValueFrom_lt (acc := 0) (hexValue?_eq h)

/-! ## What the driver makes of its arguments (42_host_driver.md R151 to R154, R158) -/

/-- A length asks for no instruction set exactly when it is neither 4 nor 8. -/
theorem lengthIsa?_eq_none_iff (n : Nat) : lengthIsa? n = none ↔ n ≠ 4 ∧ n ≠ 8 := by
  rw [lengthIsa?]
  split
  case isTrue h => simp [h]
  case isFalse h => simp [h]

/-- With one argument of a wrong length the driver ends with the format message. -/
theorem driverPlan_wrongLength {a : String} (h : lengthIsa? a.toList.length = none) :
    driverPlan [a] = .finish ⟨[a], [], [formatMessage], 1⟩ := by
  simp only [driverPlan, h]

/-- With one argument of a right length and without a value the run is refused. -/
theorem driverPlan_noValue {a : String} (hl : lengthIsa? a.toList.length ≠ none) (hv : hexValue? a.toList = none) :
    driverPlan [a] = .refuse .hostNonHexArgument := by
  obtain ⟨isa, hisa⟩ := Option.ne_none_iff_exists'.1 hl
  simp only [driverPlan, hisa, hv]

/-- The driver ends without a request in two cases: no argument, and one argument of a wrong length. -/
theorem driverPlan_finish {argv : List String} {d : RunRecord} (h : driverPlan argv = .finish d) :
    (argv = [] ∧ d = ⟨[], [], [Config.usageText], 2⟩) ∨
    (∃ a, argv = [a] ∧ lengthIsa? a.toList.length = none ∧ d = ⟨[a], [], [formatMessage], 1⟩) := by
  match argv with
  | [] => exact .inl ⟨rfl, (DriverPlan.finish.inj h).symm⟩
  | [a] =>
    cases hl : lengthIsa? a.toList.length with
    | none => exact .inr ⟨a, rfl, hl, DriverPlan.finish.inj (h.symm.trans (driverPlan_wrongLength hl))⟩
    | some isa =>
      simp only [driverPlan, hl] at h
      cases hv : hexValue? a.toList <;> rw [hv] at h <;> cases h
  | _ :: _ :: _ => cases h

/-- The driver makes a request only for one argument of a right length. -/
theorem driverPlan_ask {argv : List String} {r : Request} (h : driverPlan argv = .ask r) :
    ∃ a, argv = [a] ∧ lengthIsa? a.toList.length ≠ none := by
  match argv with
  | [] => cases h
  | [a] =>
    refine ⟨a, rfl, fun hl => ?_⟩
    rw [driverPlan_wrongLength hl] at h
    cases h
  | _ :: _ :: _ => cases h

/-! ## Errors and refusals -/

/-- Settles O47: the driver ends with the usage message before anything is presented. -/
theorem noArgumentIsAUsageError : Obligations.NoArgumentIsAUsageError :=
  fun s => (step_ran s []).trans (serveRun_finish rfl s)

/-- Settles O48: the driver ends with the format message before anything is presented. -/
theorem aWrongLengthIsAFormatError : Obligations.AWrongLengthIsAFormatError :=
  fun s a h4 h8 => serveRun_finish (driverPlan_wrongLength ((lengthIsa?_eq_none_iff a.toList.length).2 ⟨h4, h8⟩)) s

/-- Settles O51: the count of the arguments is looked at first; a character that is no digit leaves the argument without
a value. -/
theorem theRefusedRunsAreRefused : Obligations.TheRefusedRunsAreRefused := by
  refine ⟨fun s a b rest => (step_ran s _).trans (serveRun_refuse rfl s), fun s a hlen ⟨c, hmem, hc⟩ => ?_⟩
  have hl : lengthIsa? a.toList.length ≠ none := by
    rw [Ne, lengthIsa?_eq_none_iff]
    omega
  have hv : hexValue? a.toList = none := hexValueFrom_none hc a.toList 0 hmem
  rw [step_ran, serveRun_refuse (driverPlan_noValue hl hv)]

/-- Settles O52: a run that goes on has ended in one of the two error cases, or has had its one request answered and
printed one line. -/
theorem theDriverHasTwoErrorConditions : Obligations.TheDriverHasTwoErrorConditions := by
  intro s t argv hstep
  rw [step_ran] at hstep
  simp only [← lengthIsa?_eq_none_iff]
  obtain ⟨d, hplan, rfl⟩ | ⟨r, l, hplan, -, rfl⟩ := serveRun_next hstep
  · refine ⟨d, rfl, ?_⟩
    obtain ⟨rfl, rfl⟩ | ⟨a, rfl, hl, rfl⟩ := driverPlan_finish hplan
    · exact ⟨rfl, by simp, by simp, by simp, fun _ => ⟨rfl, rfl, rfl⟩, nofun⟩
    · exact ⟨rfl, by simp, by simpa using hl, by simp, fun _ => ⟨rfl, rfl, rfl⟩, nofun⟩
  · obtain ⟨a, rfl, hl⟩ := driverPlan_ask hplan
    exact ⟨_, rfl, rfl, by simp, by simpa using hl, by simp, fun h => absurd rfl h, fun _ => ⟨rfl, rfl, by simp⟩⟩

/-! ## A successful run (42_host_driver.md R153, R155 to R157) -/

/-- A run with one argument that spells a word has its request for that word served, and prints the label of the
answer. -/
theorem step_ran_spelled {a : String} {ds : List Nat} {isa : IsaBit} (hds : a.toList.map hexDigit? = ds.map some)
    (hisa : lengthIsa? ds.length = some isa) (s : State) :
    ∃ l, label? (selectIsa isa) (classify ⟨isa, BitVec.ofNat 32 (spelledValue ds)⟩) = some l ∧
      step (s.ran [a]) = .next ((s.served .driver ⟨isa, BitVec.ofNat 32 (spelledValue ds)⟩).logRun
        ⟨[a], [printPrefix (selectIsa isa) ++ l], [], 0⟩) := by
  have hlen : a.toList.length = ds.length := by simpa using congrArg List.length hds
  rw [← hlen] at hisa
  simp only [classify_eq, State.served]
  exact serveRun_word hisa (hexValue?_eq hds) s

/-- Settles O50: the digits spell a number below 16 to their count, and the run's one request is for it. -/
theorem aSuccessfulRunAsksOnceAndPrintsTheLabel : Obligations.ASuccessfulRunAsksOnceAndPrintsTheLabel := by
  intro s a ds isa pre hds hcase
  have hisa : lengthIsa? ds.length = some isa ∧ pre = printPrefix (selectIsa isa) := by
    obtain ⟨hlen, rfl, rfl⟩ | ⟨hlen, rfl, rfl⟩ := hcase <;> rw [hlen] <;> exact ⟨rfl, rfl⟩
  obtain ⟨hisa, rfl⟩ := hisa
  obtain ⟨l, hl, hstep⟩ := step_ran_spelled hds hisa s
  exact ⟨spelledValue ds, l, rfl, spelledValue_lt hds, hl, hstep⟩

/-! ## The text of the line (42_host_driver.md R157, 30_encoding.md R66, R67) -/

/-- The lines a successful run can print, by the number of the answer. -/
def driverLines (isa : Isa) : List String := (codes isa).map fun c => printPrefix isa ++ c.2

/-- The label of an answer, behind the text of its instruction set, makes the line of its number. -/
theorem driverLines_of_label {isa : Isa} {k : Idx} {l : String} (h : label? isa k = some l) :
    (driverLines isa)[k.toNat]? = some (printPrefix isa ++ l) := by
  obtain ⟨c, hc, rfl⟩ := Option.map_eq_some_iff.1 h
  rw [driverLines, List.getElem?_map, hc, Option.map_some]

/-- `Classify` of an ARM request, read as a number, is what R100 computes. -/
theorem toNat_classify_arm (w : ArmWord) : (classify ⟨0#1, w⟩).toNat = armClassify w := by
  rw [classify_arm, toNat_ofNat_firstMatch armTable (by decide), armClassify_eq_firstMatch]

/-- `Classify` of a Thumb request for a number, read as a number, is what R120 computes of its halfword. -/
theorem toNat_classify_thumb_ofNat (v : Nat) :
    (classify ⟨1#1, BitVec.ofNat 32 v⟩).toNat = thumbClassify (BitVec.ofNat 16 v) := by
  have hoperand : thumbOperand (BitVec.ofNat 32 v) = BitVec.ofNat 16 v := BitVec.setWidth_ofNat_of_le (by decide) v
  have hrow : rowNumber ⟨1#1, BitVec.ofNat 32 v⟩ = firstMatch thumbTable (thumbOperand (BitVec.ofNat 32 v)) := rfl
  rw [classify_eq, hrow, hoperand, toNat_ofNat_firstMatch thumbTable (by decide), thumbClassify_eq_firstMatch]

/-- An ARM word with the fields of a row, less what the earlier rows take, is classified as that row. -/
theorem armClassify_of_fields {k : Nat} {fs : List FieldTest} {taken : List (List FieldTest)} {w : ArmWord}
    (hrow : ArmRowFields k fs taken) (h : FieldForm fs taken w) : armClassify w = k + 1 := by
  rw [armClassify_eq_firstMatch, ← rowWins_iff armTable w (k + 1) k.succ_pos]
  exact (armRowWins_iff hrow w).2 h

/-- An ARM word with `w[27:25] = 010` is classified as row 6: row 5 takes only words with 011 there. -/
theorem armClassify_singleDataTransfer {w : ArmWord} (h : bits w 27 25 = 0b010#3) : armClassify w = 6 := by
  have hrow6 : ArmRowFields 5 [⟨27, 26, 0b01#2⟩] [[⟨27, 25, 0b011#3⟩, ⟨4, 4, 1#1⟩]] := by decide
  have hbits : bits (bits w 27 25) 2 1 = bits w 27 26 := bits_bits w (by decide) (by decide)
  have hform := (singleDataTransfer_fields (bits w 27 25) (bits w 4 4)).2 (.inl h)
  rw [hbits] at hform
  exact armClassify_of_fields hrow6 hform

/-- R64's two bit patterns are classified as Illegal. -/
theorem armClassify_illegal {w : ArmWord} (h : bits w 27 25 = 0b110#3 ∨ bits w 27 24 = 0b1110#4) :
    armClassify w = 0 := by
  have hfield : bits (bits w 27 24) 3 1 = bits w 27 25 := bits_bits w (by decide) (by decide)
  rw [← hfield] at h
  rw [armClassify_eq_firstMatch, armFirstMatch_eq_zero_iff_nibble]
  exact (armNibbleRows_illegal (bits w 27 24)).2.2 h

/-- A halfword is classified as R60's entry for every high byte whose bits from `l` up have its value. -/
theorem thumbClassify_of_upperBits (k l : Nat) {v : BitVec (7 - l + 1)} {w : ThumbWord} (hl : l ≤ 7)
    (hbyte : ∀ b : BitVec 8, bits b 7 l = v → highByteEntry b = k) (hw : w.extractLsb' (8 + l) (7 - l + 1) = v) :
    thumbClassify w = k := by
  rw [thumbClassify_eq_firstMatch, thumbFirstMatch_eq_highByteEntry]
  exact hbyte _ ((bits_bits w (by decide) hl).trans hw)

/-- The number of the answer decides the line. -/
theorem driverLine_eq {isa : Isa} {n k : Nat} {l x : String} (hl : (driverLines isa)[n]? = some l) (hn : n = k)
    (hx : (driverLines isa)[k]? = some x) : l = x :=
  Option.some.inj (hl.symm.trans (hn ▸ hx))

/-- Settles O53: the lists written out evaluate to `driverLines`, from which the number of the answer picks the line; the
fields of an ARM row that no earlier row takes words from, or the upper bits of a Thumb word's high byte, give that number. -/
theorem aSuccessfulRunPrintsTheTextOfItsCategory : Obligations.ASuccessfulRunPrintsTheTextOfItsCategory := by
  refine fun s a ds hds => ⟨fun hlen => ?_, fun hlen => ?_⟩
  · obtain ⟨l, hl, hstep⟩ := step_ran_spelled (isa := 0#1) hds (by rw [hlen]; rfl) s
    have hline := driverLines_of_label hl
    rw [toNat_classify_arm] at hline
    have hrow1 : ArmRowFields 0 [⟨27, 4, 0x012FFF1#24⟩] [] := by decide
    have hrow2 : ArmRowFields 1 [⟨27, 25, 0b100#3⟩] [] := by decide
    have hrow3 : ArmRowFields 2 [⟨27, 25, 0b101#3⟩] [] := by decide
    have hrow4 : ArmRowFields 3 [⟨27, 24, 0b1111#4⟩] [] := by decide
    have hrow5 : ArmRowFields 4 [⟨27, 25, 0b011#3⟩, ⟨4, 4, 1#1⟩] [] := by decide
    have hrow7 : ArmRowFields 6 [⟨27, 23, 0b00010#5⟩, ⟨11, 4, 0x09#8⟩] [] := by decide
    have hrow8 : ArmRowFields 7 [⟨27, 24, 0b0000#4⟩, ⟨7, 4, 0b1001#4⟩] [] := by decide
    refine ⟨_, _, _, rfl, hstep, rfl, hline,
      ?_, ?_, ?_, ?_, ?_, ?_, ?_, ?_, ?_⟩
    · exact fun h => driverLine_eq hline (armClassify_of_fields hrow1 h) (by decide)
    · exact fun h => driverLine_eq hline (armClassify_of_fields hrow2 h) (by decide)
    · exact fun h => driverLine_eq hline (armClassify_of_fields hrow3 h) (by decide)
    · exact fun h => driverLine_eq hline (armClassify_of_fields hrow4 h) (by decide)
    · exact fun h => driverLine_eq hline (armClassify_of_fields hrow5 h) (by decide)
    · exact fun h => driverLine_eq hline (armClassify_singleDataTransfer h) (by decide)
    · exact fun h => driverLine_eq hline (armClassify_of_fields hrow7 h) (by decide)
    · exact fun h => driverLine_eq hline (armClassify_of_fields hrow8 h) (by decide)
    · exact fun h => driverLine_eq hline (armClassify_illegal h) (by decide)
  · obtain ⟨l, hl, hstep⟩ := step_ran_spelled (isa := 1#1) hds (by rw [hlen]; rfl) s
    have hline := driverLines_of_label hl
    rw [toNat_classify_thumb_ofNat] at hline
    refine ⟨_, _, _, rfl, hstep, rfl, hline,
      ?_, ?_, ?_, ?_, ?_, ?_, ?_, ?_, ?_, ?_, ?_, ?_, ?_, ?_, ?_⟩
    · exact fun h => driverLine_eq hline (thumbClassify_of_upperBits 1 0 (by decide) (by decide) h) (by decide)
    · exact fun h => driverLine_eq hline (thumbClassify_of_upperBits 2 3 (by decide) (by decide) h) (by decide)
    · exact fun h => driverLine_eq hline (thumbClassify_of_upperBits 4 4 (by decide) (by decide) h) (by decide)
    · exact fun h => driverLine_eq hline (thumbClassify_of_upperBits 5 4 (by decide) (by decide) h) (by decide)
    · exact fun h => driverLine_eq hline (thumbClassify_of_upperBits 6 0 (by decide) (by decide) h) (by decide)
    · exact fun h => driverLine_eq hline (thumbClassify_of_upperBits 8 4 (by decide) (by decide) h) (by decide)
    · exact fun h => driverLine_eq hline (thumbClassify_of_upperBits 9 4 (by decide) (by decide) h) (by decide)
    · exact fun h => driverLine_eq hline (thumbClassify_of_upperBits 10 4 (by decide) (by decide) h) (by decide)
    · exact fun h => driverLine_eq hline (thumbClassify_of_upperBits 11 5 (by decide) (by decide) h) (by decide)
    · exact fun h => driverLine_eq hline (thumbClassify_of_upperBits 14 3 (by decide) (by decide) h) (by decide)
    · exact fun h => driverLine_eq hline (thumbClassify_of_upperBits 15 2 (by decide) (by decide) h) (by decide)
    · exact fun h => driverLine_eq hline (thumbClassify_of_upperBits 16 2 (by decide) (by decide) h) (by decide)
    · exact fun h => driverLine_eq hline (thumbClassify_of_upperBits 17 5 (by decide) (by decide) h) (by decide)
    · exact fun h => driverLine_eq hline (thumbClassify_of_upperBits 18 3 (by decide) (by decide) h) (by decide)
    · exact fun h => driverLine_eq hline (thumbClassify_of_upperBits 0 3 (by decide) (by decide) h) (by decide)

end Sys2Proof.Machine

/-! PROOFS. The statement of 60_exceptions.md: no instruction and no input stops the block; a step stops only at a run of the
driver whose plan is a refusal. -/

namespace Sys2Proof.Machine

/-- The driver goes on from an answer that has a label: it logs one line. -/
theorem driverPrint_of_label {argv : List String} {s : State} {l : String} (h : label? s.isa s.outIdx = some l) :
    driverPrint argv s = .next (s.logRun ⟨argv, [printPrefix s.isa ++ l], [], 0⟩) := by
  rw [driverPrint, h]

/-- A run that asks the block goes on, since every answer has a label (30_encoding.md R68). -/
theorem exists_serveRun_ask {argv : List String} {r : Request} (h : driverPlan argv = .ask r) (s : State) :
    ∃ t, serveRun argv s = .next t := by
  obtain ⟨l, hl⟩ := label_rowNumber r
  exact ⟨_, (serveRun_ask h s).trans (driverPrint_of_label hl)⟩

/-- How a run of the driver can end: it goes on, or its plan is a refusal. -/
theorem serveRun_cases (argv : List String) (s : State) :
    (∃ t, serveRun argv s = .next t) ∨ ∃ x, driverPlan argv = .refuse x ∧ serveRun argv s = .refused x := by
  cases hplan : driverPlan argv with
  | finish d => exact .inl ⟨_, serveRun_finish hplan s⟩
  | ask r => exact .inl (exists_serveRun_ask hplan s)
  | refuse x => exact .inr ⟨x, rfl, serveRun_refuse hplan s⟩

/-- How a step can end: it goes on, or it is a run of the driver whose plan is a refusal. -/
theorem step_cases (s : State) :
    (∃ t, step s = .next t) ∨
    ∃ x argv rest, s.jobs = .run argv :: rest ∧ driverPlan argv = .refuse x ∧ step s = .refused x := by
  cases hjobs : s.jobs with
  | nil => exact .inl ⟨_, step_idle hjobs⟩
  | cons j rest =>
    rw [step_job hjobs]
    cases j with
    | request c r => exact .inl ⟨_, serveRequest_eq c r _⟩
    | unstable c r => exact .inl ⟨_, rfl⟩
    | run argv =>
      obtain hnext | ⟨x, hplan, hserve⟩ := serveRun_cases argv { s with jobs := rest }
      · exact .inl hnext
      · exact .inr ⟨x, argv, rest, rfl, hplan, hserve⟩

/-- Settles O30: an instruction answers what `exec_eq` says, and the only step that does not go on is a refused run of the
driver. -/
theorem nothingRaisesAnException : Obligations.NothingRaisesAnException := by
  refine ⟨fun i s => ⟨_, exec_eq i s⟩, fun s x hfault => ?_, fun s x hrefused => ?_⟩
  · obtain ⟨t, hstep⟩ | ⟨y, argv, rest, -, -, hstep⟩ := step_cases s <;> cases hfault.symm.trans hstep
  · obtain ⟨t, hstep⟩ | ⟨y, argv, rest, hjobs, -, -⟩ := step_cases s
    · cases hrefused.symm.trans hstep
    · exact ⟨argv, rest, hjobs⟩

end Sys2Proof.Machine

/-! PROOFS. The statements of 70_reset_and_hazards.md: the reset state, the idle step, and a look at inputs that are not held
stable. -/

namespace Sys2Proof.Machine

/-- A look at inputs not held stable is a sample of the unsettled output, whatever the state (70_reset_and_hazards.md R193). -/
theorem step_unstable {s : State} {c : Caller} {r : Request} {rest : List Job} (h : s.jobs = .unstable c r :: rest) :
    step s = .next ((({ s with jobs := rest } : State).present r).unsettle.sample c) :=
  step_job h

/-- Settles O4: settling at `Classify` of the ports is what `drive` does, and it changes no other field. -/
theorem idleStepSettlesOnThePorts : Obligations.IdleStepSettlesOnThePorts :=
  fun _ hjobs => step_idle_classify hjobs

/-- Settles O31: the look presents its inputs and samples the free value; they are still on the ports when the next step,
with no job waiting, settles the output. -/
theorem anUnstableLookIsFreeAndTheOutputSettlesLater : Obligations.AnUnstableLookIsFreeAndTheOutputSettlesLater := by
  intro s c r rest hjobs
  refine ⟨_, step_unstable hjobs, rfl, rfl, rfl, rfl, rfl, rfl, rfl, fun hrest => ?_⟩
  exact idleStepSettlesOnThePorts _ hrest

/-- Settles O1: nothing is logged, and a settled output is right at reset by the invariant. -/
theorem resetIsEmptyAndClassifiesItsInputs : Obligations.ResetIsEmptyAndClassifiesItsInputs := by
  obtain ⟨hout, -⟩ := resetMeetsTheInvariant
  exact ⟨rfl, rfl, rfl, hout rfl⟩

end Sys2Proof.Machine
